-- ==== Sys2Proof/Word.lean ====
section
/-! DEFINITION. The widths the spec fixes (R11): 32-bit registers, 8-bit vectors and identifiers, 256-bit per-vector bitmaps. -/

namespace Sys2Proof

/-- A register of the 4 KB image (R11, R17). -/
abbrev Word := BitVec 32

/-- One byte of a byte-addressed platform (R57). -/
abbrev Byte := BitVec 8

/-- An interrupt vector, 0 to 255 (R11). -/
abbrev Vec := BitVec 8

/-- The fixed identifier of an instance (R9). -/
abbrev ApicId := BitVec 8

/-- One bit per vector: IRR, ISR or TMR (R11, R13). -/
abbrev Bitmap := BitVec 256

end Sys2Proof
end

