-- ==== Sys2Proof/Config.lean ====
section
/-! DEFINITION. The implementation parameters of R10 with their defaults, and the free values.

The parameters that have a data type are plain data of the state (`Params` per instance, `Platform` per system), so that a
statement about every state holds for every choice of them (log 22). The page addresses that the spec leaves OPEN are constants
without a body (log 19). -/

namespace Sys2Proof

/-- The parameters of one instance (R10). -/
structure Params where
  /-- `APIC_ID`, in `ID[31:24]` (R9, R21, D1). -/
  apicId : ApicId
  /-- `VERSION_VALUE` (R22, D3). -/
  version : Word := 0x00060015#32
  /-- `SVR_RESET` (R28, D4). -/
  svrReset : Word := 0x000001FF#32
  /-- `HOLE_READ_VALUE` (R59, D18). -/
  holeRead : Word := 0x00000000#32
  /-- `MALFORMED_READ_VALUE` (R58, D20). -/
  malformedRead : Word := 0xFFFFFFFF#32
  /-- `ESR_RECORD`: whether errors set bits of ESR (R196, D23). -/
  esrRecord : Bool := true
deriving DecidableEq, Repr

/-- One row of a platform's own logical destination match: the senders and destinations not listed resolve to no instance. -/
structure LogicalRow where
  sender : ApicId
  dest : BitVec 8
  targets : List ApicId
deriving DecidableEq, Repr

/-- `ResolveLogical(sender, dest)` (R10, R184, D2): the spec's default match on LDR and DFR, or a platform's own function into
subsets of `VCPUS`, written as its table (log 9). -/
inductive LogicalMatch where
  | flatCluster
  | delegated (rows : List LogicalRow)
deriving DecidableEq, Repr

/-- `PickLowest(set)` (R10, R185, D47): any member (the spec's default, a free value, log 8), or the deterministic refinement
that R185 allows: the least Processor Priority, then the least identifier. -/
inductive PickPolicy where
  | anyMember
  | leastPriority
deriving DecidableEq, Repr

/-- The parameters of the system the instances stand in (R10). -/
structure Platform where
  logical : LogicalMatch := .flatCluster
  pick : PickPolicy := .anyMember
  /-- The page number of `MMIO_BASE` (R10, R62, D10). DESIGN CHOICE: a physical address is 64 bits, so a page number 52 (log 26). -/
  mmioPage : BitVec 52 := 0x00000000FEE00#52
deriving DecidableEq, Repr

/-- FREE VALUE (R185, log 8): which member LowestPriority delivery elects at its n-th election. It has no body on purpose: the
spec lets it be any member, and "a claim about a program that uses this mode must hold for every choice". -/
opaque Config.pickLowest : Nat → Nat

/-- `MMIO_BASE` (R10, D10): where the platform maps offset 0, page-aligned, by default `0xFEE0_0000`. The block sees offsets only. The
width of 64 bits is the model's choice (DESIGN CHOICE, log 26). -/
def Platform.mmioBase (p : Platform) : BitVec 64 := p.mmioPage ++ 0#12

/-- FREE VALUE (R10, D10, log 19): the page number of `ACCESS_PAGE_ADDR`, OPEN in the spec; 52 bits (DESIGN CHOICE, log 26). -/
opaque Config.accessPageNumber : BitVec 52

/-- FREE VALUE (R10, D10, log 19): the page number of `VAPIC_PAGE_ADDR` of each CPU, OPEN in the spec; 52 bits (DESIGN CHOICE,
log 26). -/
opaque Config.vapicPageNumber : ApicId → BitVec 52

/-- `ACCESS_PAGE_ADDR`, the "per-VM shared access page address": one page-aligned constant for the whole system, which the block exposes
and no rule reads (R10, R62). -/
def Config.accessPageAddr : BitVec 64 := Config.accessPageNumber ++ 0#12

/-- `VAPIC_PAGE_ADDR`, the "per-virtual-CPU private page address": one page-aligned constant for each CPU, which its instance exposes and
no rule reads (R10, R62). -/
def Params.vapicPageAddr (p : Params) : BitVec 64 := Config.vapicPageNumber p.apicId ++ 0#12

end Sys2Proof
end

