-- ==== Sys2Proof/Syntax.lean ====
section
/-! DEFINITION. The operations of the block: the commands its two input ports carry (R72 to R75) and one constructor of `Instr`
per row of opcode_table.json (R78). -/

namespace Sys2Proof

/-- The 45 registers of the 4 KB image (R77). -/
inductive Reg where
  | id | version | tpr | ppr | eoi | ldr | dfr | svr
  /-- `ISR0` to `ISR7` (R29). -/
  | isr (k : Fin 8)
  /-- `TMR0` to `TMR7` (R30). -/
  | tmr (k : Fin 8)
  /-- `IRR0` to `IRR7` (R31). -/
  | irr (k : Fin 8)
  | esr | lvtCmci | icrLo | icrHi | lvtTimer | lvtThermal | lvtPerfmon | lvtLint0 | lvtLint1 | lvtError
  | ticr | tccr | tdcr
deriving DecidableEq, Repr

/-- One operation of the block (R78). A `value` of a register write is the 4-byte data word of R73. -/
inductive Instr where
  | rdId
  | wrId (value : Word)
  | rdVersion
  | wrVersion (value : Word)
  | rdTpr
  | wrTpr (value : Word)
  | rdPpr
  | wrPpr (value : Word)
  | rdEoi
  | wrEoi (value : Word)
  | rdLdr
  | wrLdr (value : Word)
  | rdDfr
  | wrDfr (value : Word)
  | rdSvr
  | wrSvr (value : Word)
  | rdIsr0
  | wrIsr0 (value : Word)
  | rdIsr1
  | wrIsr1 (value : Word)
  | rdIsr2
  | wrIsr2 (value : Word)
  | rdIsr3
  | wrIsr3 (value : Word)
  | rdIsr4
  | wrIsr4 (value : Word)
  | rdIsr5
  | wrIsr5 (value : Word)
  | rdIsr6
  | wrIsr6 (value : Word)
  | rdIsr7
  | wrIsr7 (value : Word)
  | rdTmr0
  | wrTmr0 (value : Word)
  | rdTmr1
  | wrTmr1 (value : Word)
  | rdTmr2
  | wrTmr2 (value : Word)
  | rdTmr3
  | wrTmr3 (value : Word)
  | rdTmr4
  | wrTmr4 (value : Word)
  | rdTmr5
  | wrTmr5 (value : Word)
  | rdTmr6
  | wrTmr6 (value : Word)
  | rdTmr7
  | wrTmr7 (value : Word)
  | rdIrr0
  | wrIrr0 (value : Word)
  | rdIrr1
  | wrIrr1 (value : Word)
  | rdIrr2
  | wrIrr2 (value : Word)
  | rdIrr3
  | wrIrr3 (value : Word)
  | rdIrr4
  | wrIrr4 (value : Word)
  | rdIrr5
  | wrIrr5 (value : Word)
  | rdIrr6
  | wrIrr6 (value : Word)
  | rdIrr7
  | wrIrr7 (value : Word)
  | rdEsr
  | wrEsr (value : Word)
  | rdLvtCmci
  | wrLvtCmci (value : Word)
  | rdIcrLo
  | wrIcrLo (value : Word)
  | rdIcrHi
  | wrIcrHi (value : Word)
  | rdLvtTimer
  | wrLvtTimer (value : Word)
  | rdLvtThermal
  | wrLvtThermal (value : Word)
  | rdLvtPerfmon
  | wrLvtPerfmon (value : Word)
  | rdLvtLint0
  | wrLvtLint0 (value : Word)
  | rdLvtLint1
  | wrLvtLint1 (value : Word)
  | rdLvtError
  | wrLvtError (value : Word)
  | rdTicr
  | wrTicr (value : Word)
  | rdTccr
  | wrTccr (value : Word)
  | rdTdcr
  | wrTdcr (value : Word)
  /-- A well-formed read of an offset where no register stands (R138). -/
  | rdHole (off : BitVec 12)
  /-- A well-formed write to an offset where no register stands (R139). -/
  | wrHole (off : BitVec 12) (value : Word)
  /-- A read header with `SZ != 2` or `OFF[1:0] != 0` (R140). -/
  | rdMalformed (sz : BitVec 3) (off : BitVec 12)
  /-- A write header with `SZ != 2` or `OFF[1:0] != 0`, and its data of `SZ` bytes, at most 16 (R73, R141). -/
  | wrMalformed (sz : BitVec 3) (off : BitVec 12) (value : BitVec 128)
  | reset
  | tick (elapsed : BitVec 64)
  | tickTsc (now : BitVec 64)
  | wrTscdl (deadline : BitVec 64)
  | rdTscdl
  | pendingVector
  | accept
  /-- `msg[31:0]` is the sender's ICR_LO image, `msg[39:32]` its APIC_ID (R75). -/
  | deliverIpi (msg : BitVec 40)
  | lvtFireCmci
  | lvtFireThermal
  | lvtFirePerfmon
  | lvtFireLint0
  | lvtFireLint1
  | lvtFireError
  /-- A port id that R74 does not list (R142). -/
  | portReserved (op : BitVec 8)
deriving DecidableEq, Repr

/-- One command at an input port (R72). The MMIO port carries a 16-bit header and up to 16 bytes of write data; the sideband port
carries an 8-bit id and up to 64 bits of payload. Bits an operation has no use for are not looked at (log 6). -/
inductive Command where
  | mmio (header : BitVec 16) (data : BitVec 128)
  | side (op : BitVec 8) (payload : BitVec 64)
deriving DecidableEq, Repr

/-- What happens next, in the one order the model runs in (R66, log 3): an operation presented to an instance, named by its `APIC_ID`
(R9), or the moment at which a send of an instance reads the LDR and the DFR of another. -/
inductive Presented where
  /-- A command presented to an instance. -/
  | op (cpu : ApicId) (cmd : Command)
  /-- R184: "each target's `LDR` and `DFR` are read atomically but the set is not a snapshot of all instances at one moment". The next
  operation of `cpu` has begun and, if it is a send, reads `target` here; operations of other instances may still come before it ends
  (log 27). -/
  | look (cpu target : ApicId)
deriving DecidableEq, Repr

/-- The instance an item of the order belongs to. -/
def Presented.cpu : Presented → ApicId
  | .op cpu _ => cpu
  | .look cpu _ => cpu

end Sys2Proof
end

