-- ==== Sys2Proof/Decode.lean ====
section
/-! DEFINITION. The decoder and the encoder of the two command formats (R73, R74, R75, R77, R78, R79), and the expansions of the
pseudo-operations (R88).

Decoding is total and refuses nothing: the last row of each format takes every command no earlier row matches (R78, R85), so the
rejections of the spec are the operations `rdMalformed`, `wrMalformed` and `portReserved`. -/

namespace Sys2Proof

/-- Bits `lo + w - 1` down to `lo` of a value, the `v[hi:lo]` of R12. -/
def bits (v : BitVec n) (lo w : Nat) : BitVec w := v.extractLsb' lo w

/-- The offset of each register (R77). -/
def regOffset : Reg → BitVec 12
  | .id => 0x020#12
  | .version => 0x030#12
  | .tpr => 0x080#12
  | .ppr => 0x0A0#12
  | .eoi => 0x0B0#12
  | .ldr => 0x0D0#12
  | .dfr => 0x0E0#12
  | .svr => 0x0F0#12
  | .isr k => 0x100#12 + BitVec.ofNat 12 (16 * k)
  | .tmr k => 0x180#12 + BitVec.ofNat 12 (16 * k)
  | .irr k => 0x200#12 + BitVec.ofNat 12 (16 * k)
  | .esr => 0x280#12
  | .lvtCmci => 0x2F0#12
  | .icrLo => 0x300#12
  | .icrHi => 0x310#12
  | .lvtTimer => 0x320#12
  | .lvtThermal => 0x330#12
  | .lvtPerfmon => 0x340#12
  | .lvtLint0 => 0x350#12
  | .lvtLint1 => 0x360#12
  | .lvtError => 0x370#12
  | .ticr => 0x380#12
  | .tccr => 0x390#12
  | .tdcr => 0x3E0#12

/-- The eight registers of a bank, in order. -/
def bankRegs (bank : Fin 8 → Reg) : List Reg := [bank 0, bank 1, bank 2, bank 3, bank 4, bank 5, bank 6, bank 7]

/-- The 45 registers in the order of R77's table. -/
def allRegs : List Reg :=
  [.id, .version, .tpr, .ppr, .eoi, .ldr, .dfr, .svr] ++ bankRegs .isr ++ bankRegs .tmr ++ bankRegs .irr ++
  [.esr, .lvtCmci, .icrLo, .icrHi, .lvtTimer, .lvtThermal, .lvtPerfmon, .lvtLint0, .lvtLint1, .lvtError, .ticr, .tccr, .tdcr]

/-- The register that stands at an offset, if any. The whole 12-bit offset selects it: no bit is ignored and no register is aliased
(R79). -/
def regAt (off : BitVec 12) : Option Reg := allRegs.find? fun r => regOffset r == off

/-- The `RD_<name>` operation of a register. -/
def rdOf : Reg → Instr
  | .id => .rdId
  | .version => .rdVersion
  | .tpr => .rdTpr
  | .ppr => .rdPpr
  | .eoi => .rdEoi
  | .ldr => .rdLdr
  | .dfr => .rdDfr
  | .svr => .rdSvr
  | .isr 0 => .rdIsr0
  | .isr 1 => .rdIsr1
  | .isr 2 => .rdIsr2
  | .isr 3 => .rdIsr3
  | .isr 4 => .rdIsr4
  | .isr 5 => .rdIsr5
  | .isr 6 => .rdIsr6
  | .isr 7 => .rdIsr7
  | .tmr 0 => .rdTmr0
  | .tmr 1 => .rdTmr1
  | .tmr 2 => .rdTmr2
  | .tmr 3 => .rdTmr3
  | .tmr 4 => .rdTmr4
  | .tmr 5 => .rdTmr5
  | .tmr 6 => .rdTmr6
  | .tmr 7 => .rdTmr7
  | .irr 0 => .rdIrr0
  | .irr 1 => .rdIrr1
  | .irr 2 => .rdIrr2
  | .irr 3 => .rdIrr3
  | .irr 4 => .rdIrr4
  | .irr 5 => .rdIrr5
  | .irr 6 => .rdIrr6
  | .irr 7 => .rdIrr7
  | .esr => .rdEsr
  | .lvtCmci => .rdLvtCmci
  | .icrLo => .rdIcrLo
  | .icrHi => .rdIcrHi
  | .lvtTimer => .rdLvtTimer
  | .lvtThermal => .rdLvtThermal
  | .lvtPerfmon => .rdLvtPerfmon
  | .lvtLint0 => .rdLvtLint0
  | .lvtLint1 => .rdLvtLint1
  | .lvtError => .rdLvtError
  | .ticr => .rdTicr
  | .tccr => .rdTccr
  | .tdcr => .rdTdcr

/-- The `WR_<name>` operation of a register. -/
def wrOf : Reg → Word → Instr
  | .id, value => .wrId value
  | .version, value => .wrVersion value
  | .tpr, value => .wrTpr value
  | .ppr, value => .wrPpr value
  | .eoi, value => .wrEoi value
  | .ldr, value => .wrLdr value
  | .dfr, value => .wrDfr value
  | .svr, value => .wrSvr value
  | .isr 0, value => .wrIsr0 value
  | .isr 1, value => .wrIsr1 value
  | .isr 2, value => .wrIsr2 value
  | .isr 3, value => .wrIsr3 value
  | .isr 4, value => .wrIsr4 value
  | .isr 5, value => .wrIsr5 value
  | .isr 6, value => .wrIsr6 value
  | .isr 7, value => .wrIsr7 value
  | .tmr 0, value => .wrTmr0 value
  | .tmr 1, value => .wrTmr1 value
  | .tmr 2, value => .wrTmr2 value
  | .tmr 3, value => .wrTmr3 value
  | .tmr 4, value => .wrTmr4 value
  | .tmr 5, value => .wrTmr5 value
  | .tmr 6, value => .wrTmr6 value
  | .tmr 7, value => .wrTmr7 value
  | .irr 0, value => .wrIrr0 value
  | .irr 1, value => .wrIrr1 value
  | .irr 2, value => .wrIrr2 value
  | .irr 3, value => .wrIrr3 value
  | .irr 4, value => .wrIrr4 value
  | .irr 5, value => .wrIrr5 value
  | .irr 6, value => .wrIrr6 value
  | .irr 7, value => .wrIrr7 value
  | .esr, value => .wrEsr value
  | .lvtCmci, value => .wrLvtCmci value
  | .icrLo, value => .wrIcrLo value
  | .icrHi, value => .wrIcrHi value
  | .lvtTimer, value => .wrLvtTimer value
  | .lvtThermal, value => .wrLvtThermal value
  | .lvtPerfmon, value => .wrLvtPerfmon value
  | .lvtLint0, value => .wrLvtLint0 value
  | .lvtLint1, value => .wrLvtLint1 value
  | .lvtError, value => .wrLvtError value
  | .ticr, value => .wrTicr value
  | .tccr, value => .wrTccr value
  | .tdcr, value => .wrTdcr value

/-- `W`, `H[15]`: 1 for a write (R73). -/
def headerIsWrite (h : BitVec 16) : Bool := h.getLsbD 15

/-- `SZ`, `H[14:12]` (R73). -/
def headerSize (h : BitVec 16) : BitVec 3 := bits h 12 3

/-- `OFF`, `H[11:0]` (R73). -/
def headerOffset (h : BitVec 16) : BitVec 12 := bits h 0 12

/-- Well-formed: 4 bytes and 4-byte aligned (R58, R73). -/
def accessOk (sz : BitVec 3) (off : BitVec 12) : Bool := sz == 2#3 && bits off 0 2 == 0#2

/-- The number of data bytes of a write: a power of two for `SZ` 0 to 4, none for the codes that are no size (R73). -/
def sizeBytes (sz : BitVec 3) : Nat := if sz.toNat ≤ 4 then 2 ^ sz.toNat else 0

/-- The data of a malformed write: its `SZ` bytes, the rest of the lane dropped (R73, log 6). -/
def laneData (sz : BitVec 3) (data : BitVec 128) : BitVec 128 := data &&& BitVec.ofNat 128 (2 ^ (8 * sizeBytes sz) - 1)

/-- An MMIO command: the size and alignment check comes before the offset is decoded (R89, R90, R140). -/
def decodeMmio (h : BitVec 16) (data : BitVec 128) : Instr :=
  let sz := headerSize h
  let off := headerOffset h
  match headerIsWrite h, accessOk sz off, regAt off with
  | false, true, some r => rdOf r
  | true, true, some r => wrOf r (bits data 0 32)
  | false, true, none => .rdHole off
  | true, true, none => .wrHole off (bits data 0 32)
  | false, false, _ => .rdMalformed sz off
  | true, false, _ => .wrMalformed sz off (laneData sz data)

/-- A port command (R74); every id that is not listed is reserved (R142). -/
def decodeSide (op : BitVec 8) (payload : BitVec 64) : Instr :=
  match op.toNat with
  | 0x01 => .reset
  | 0x02 => .tick payload
  | 0x03 => .tickTsc payload
  | 0x04 => .wrTscdl payload
  | 0x05 => .rdTscdl
  | 0x06 => .pendingVector
  | 0x07 => .accept
  | 0x08 => .deliverIpi (bits payload 0 40)
  | 0x10 => .lvtFireCmci
  | 0x11 => .lvtFireThermal
  | 0x12 => .lvtFirePerfmon
  | 0x13 => .lvtFireLint0
  | 0x14 => .lvtFireLint1
  | 0x15 => .lvtFireError
  | _ => .portReserved op

/-- The operation a command carries (R78). -/
def decode : Command → Instr
  | .mmio h data => decodeMmio h data
  | .side op payload => decodeSide op payload

/-! ## The encoder, written from the same tables -/

/-- The header `W || SZ || OFF` (R73). -/
def header (write : Bool) (sz : BitVec 3) (off : BitVec 12) : BitVec 16 := (BitVec.ofBool write ++ sz) ++ off

/-- `RD off`, a 4-byte read (R87): header `0x2000 | off`. -/
def rdCommand (off : BitVec 12) : Command := .mmio (header false 2#3 off) 0#128

/-- `WR off, value`, a 4-byte write (R87): header `0xA000 | off` and the data word. -/
def wrCommand (off : BitVec 12) (value : Word) : Command := .mmio (header true 2#3 off) (value.setWidth 128)

/-- A port command: the id and its payload (R74). -/
def sideCommand (op : BitVec 8) (payload : BitVec 64) : Command := .side op payload

/-- The command of an operation (R73, R74, R77, R78). -/
def encode : Instr → Command
  | .rdId => rdCommand (regOffset .id)
  | .wrId value => wrCommand (regOffset .id) value
  | .rdVersion => rdCommand (regOffset .version)
  | .wrVersion value => wrCommand (regOffset .version) value
  | .rdTpr => rdCommand (regOffset .tpr)
  | .wrTpr value => wrCommand (regOffset .tpr) value
  | .rdPpr => rdCommand (regOffset .ppr)
  | .wrPpr value => wrCommand (regOffset .ppr) value
  | .rdEoi => rdCommand (regOffset .eoi)
  | .wrEoi value => wrCommand (regOffset .eoi) value
  | .rdLdr => rdCommand (regOffset .ldr)
  | .wrLdr value => wrCommand (regOffset .ldr) value
  | .rdDfr => rdCommand (regOffset .dfr)
  | .wrDfr value => wrCommand (regOffset .dfr) value
  | .rdSvr => rdCommand (regOffset .svr)
  | .wrSvr value => wrCommand (regOffset .svr) value
  | .rdIsr0 => rdCommand (regOffset (.isr 0))
  | .wrIsr0 value => wrCommand (regOffset (.isr 0)) value
  | .rdIsr1 => rdCommand (regOffset (.isr 1))
  | .wrIsr1 value => wrCommand (regOffset (.isr 1)) value
  | .rdIsr2 => rdCommand (regOffset (.isr 2))
  | .wrIsr2 value => wrCommand (regOffset (.isr 2)) value
  | .rdIsr3 => rdCommand (regOffset (.isr 3))
  | .wrIsr3 value => wrCommand (regOffset (.isr 3)) value
  | .rdIsr4 => rdCommand (regOffset (.isr 4))
  | .wrIsr4 value => wrCommand (regOffset (.isr 4)) value
  | .rdIsr5 => rdCommand (regOffset (.isr 5))
  | .wrIsr5 value => wrCommand (regOffset (.isr 5)) value
  | .rdIsr6 => rdCommand (regOffset (.isr 6))
  | .wrIsr6 value => wrCommand (regOffset (.isr 6)) value
  | .rdIsr7 => rdCommand (regOffset (.isr 7))
  | .wrIsr7 value => wrCommand (regOffset (.isr 7)) value
  | .rdTmr0 => rdCommand (regOffset (.tmr 0))
  | .wrTmr0 value => wrCommand (regOffset (.tmr 0)) value
  | .rdTmr1 => rdCommand (regOffset (.tmr 1))
  | .wrTmr1 value => wrCommand (regOffset (.tmr 1)) value
  | .rdTmr2 => rdCommand (regOffset (.tmr 2))
  | .wrTmr2 value => wrCommand (regOffset (.tmr 2)) value
  | .rdTmr3 => rdCommand (regOffset (.tmr 3))
  | .wrTmr3 value => wrCommand (regOffset (.tmr 3)) value
  | .rdTmr4 => rdCommand (regOffset (.tmr 4))
  | .wrTmr4 value => wrCommand (regOffset (.tmr 4)) value
  | .rdTmr5 => rdCommand (regOffset (.tmr 5))
  | .wrTmr5 value => wrCommand (regOffset (.tmr 5)) value
  | .rdTmr6 => rdCommand (regOffset (.tmr 6))
  | .wrTmr6 value => wrCommand (regOffset (.tmr 6)) value
  | .rdTmr7 => rdCommand (regOffset (.tmr 7))
  | .wrTmr7 value => wrCommand (regOffset (.tmr 7)) value
  | .rdIrr0 => rdCommand (regOffset (.irr 0))
  | .wrIrr0 value => wrCommand (regOffset (.irr 0)) value
  | .rdIrr1 => rdCommand (regOffset (.irr 1))
  | .wrIrr1 value => wrCommand (regOffset (.irr 1)) value
  | .rdIrr2 => rdCommand (regOffset (.irr 2))
  | .wrIrr2 value => wrCommand (regOffset (.irr 2)) value
  | .rdIrr3 => rdCommand (regOffset (.irr 3))
  | .wrIrr3 value => wrCommand (regOffset (.irr 3)) value
  | .rdIrr4 => rdCommand (regOffset (.irr 4))
  | .wrIrr4 value => wrCommand (regOffset (.irr 4)) value
  | .rdIrr5 => rdCommand (regOffset (.irr 5))
  | .wrIrr5 value => wrCommand (regOffset (.irr 5)) value
  | .rdIrr6 => rdCommand (regOffset (.irr 6))
  | .wrIrr6 value => wrCommand (regOffset (.irr 6)) value
  | .rdIrr7 => rdCommand (regOffset (.irr 7))
  | .wrIrr7 value => wrCommand (regOffset (.irr 7)) value
  | .rdEsr => rdCommand (regOffset .esr)
  | .wrEsr value => wrCommand (regOffset .esr) value
  | .rdLvtCmci => rdCommand (regOffset .lvtCmci)
  | .wrLvtCmci value => wrCommand (regOffset .lvtCmci) value
  | .rdIcrLo => rdCommand (regOffset .icrLo)
  | .wrIcrLo value => wrCommand (regOffset .icrLo) value
  | .rdIcrHi => rdCommand (regOffset .icrHi)
  | .wrIcrHi value => wrCommand (regOffset .icrHi) value
  | .rdLvtTimer => rdCommand (regOffset .lvtTimer)
  | .wrLvtTimer value => wrCommand (regOffset .lvtTimer) value
  | .rdLvtThermal => rdCommand (regOffset .lvtThermal)
  | .wrLvtThermal value => wrCommand (regOffset .lvtThermal) value
  | .rdLvtPerfmon => rdCommand (regOffset .lvtPerfmon)
  | .wrLvtPerfmon value => wrCommand (regOffset .lvtPerfmon) value
  | .rdLvtLint0 => rdCommand (regOffset .lvtLint0)
  | .wrLvtLint0 value => wrCommand (regOffset .lvtLint0) value
  | .rdLvtLint1 => rdCommand (regOffset .lvtLint1)
  | .wrLvtLint1 value => wrCommand (regOffset .lvtLint1) value
  | .rdLvtError => rdCommand (regOffset .lvtError)
  | .wrLvtError value => wrCommand (regOffset .lvtError) value
  | .rdTicr => rdCommand (regOffset .ticr)
  | .wrTicr value => wrCommand (regOffset .ticr) value
  | .rdTccr => rdCommand (regOffset .tccr)
  | .wrTccr value => wrCommand (regOffset .tccr) value
  | .rdTdcr => rdCommand (regOffset .tdcr)
  | .wrTdcr value => wrCommand (regOffset .tdcr) value
  | .rdHole off => rdCommand off
  | .wrHole off value => wrCommand off value
  | .rdMalformed sz off => .mmio (header false sz off) 0#128
  | .wrMalformed sz off value => .mmio (header true sz off) value
  | .reset => sideCommand 0x01#8 0#64
  | .tick elapsed => sideCommand 0x02#8 elapsed
  | .tickTsc now => sideCommand 0x03#8 now
  | .wrTscdl deadline => sideCommand 0x04#8 deadline
  | .rdTscdl => sideCommand 0x05#8 0#64
  | .pendingVector => sideCommand 0x06#8 0#64
  | .accept => sideCommand 0x07#8 0#64
  | .deliverIpi msg => sideCommand 0x08#8 (msg.setWidth 64)
  | .lvtFireCmci => sideCommand 0x10#8 0#64
  | .lvtFireThermal => sideCommand 0x11#8 0#64
  | .lvtFirePerfmon => sideCommand 0x12#8 0#64
  | .lvtFireLint0 => sideCommand 0x13#8 0#64
  | .lvtFireLint1 => sideCommand 0x14#8 0#64
  | .lvtFireError => sideCommand 0x15#8 0#64
  | .portReserved op => sideCommand op 0#64

/-! ## Words as the opcode table numbers them -/

/-- The command whose bits are `w`, numbered as the table numbers them: the first word is the 8-bit port id (a row of at most 8 bits)
or the 16-bit MMIO header (a wider row), and the payload or the data word counts on from it (log 7). -/
def commandOfWord (nbits w : Nat) : Command :=
  if nbits ≤ 8 then .side (BitVec.ofNat 8 w) (BitVec.ofNat 64 (w / 2 ^ 8))
  else .mmio (BitVec.ofNat 16 w) (BitVec.ofNat 128 (w / 2 ^ 16))

/-- The operation the decoder reads from the command whose bits are `w`. -/
def decodeTableWord (nbits w : Nat) : Option Instr := some (decode (commandOfWord nbits w))

/-! ## Pseudo-operations (R88) -/

/-- `EOI` = `WR 0x0B0, 0` (R88). -/
def pseudoEoi : List Instr := [.wrEoi 0#32]

/-- `SEND hi, lo` = `WR 0x310, hi` and then `WR 0x300, lo`; the low half commits the send (R88). -/
def pseudoSend (hi lo : Word) : List Instr := [.wrIcrHi hi, .wrIcrLo lo]

/-- The TDCR value that selects a divide value (R84, R88). -/
def divideCode : Nat → Option Word
  | 1 => some 0xB#32
  | 2 => some 0x0#32
  | 4 => some 0x1#32
  | 8 => some 0x2#32
  | 16 => some 0x3#32
  | 32 => some 0x8#32
  | 64 => some 0x9#32
  | 128 => some 0xA#32
  | _ => none

/-- `SET_DIVIDE n` = `WR 0x3E0, e` for the eight divide values; no other `n` has an expansion (R88). -/
def pseudoSetDivide (n : Nat) : Option (List Instr) := (divideCode n).map fun e => [.wrTdcr e]

end Sys2Proof
end

