-- ==== Sys2Proof/WellFormed.lean ====
section
/-! DEFINITION. Which terms of `Instr` stand for a command: the operand ranges of R138 to R142 that a type does not already give. -/

namespace Sys2Proof

/-- Hole operations name an aligned offset with no register, malformed ones a size or alignment that is not well-formed and no more
data than their size carries, a reserved port id is one R74 does not list. Every other operand may have any value. -/
def Instr.wellFormed : Instr → Bool
  | .rdHole off => accessOk 2#3 off && (regAt off).isNone
  | .wrHole off _ => accessOk 2#3 off && (regAt off).isNone
  | .rdMalformed sz off => !accessOk sz off
  | .wrMalformed sz off value => !accessOk sz off && laneData sz value == value
  | .portReserved op => !(0x01 ≤ op.toNat && op.toNat ≤ 0x08) && !(0x10 ≤ op.toNat && op.toNat ≤ 0x15)
  | _ => true

end Sys2Proof
end

