-- ==== Sys2Proof/Machine/State.lean ====
section
/-! DEFINITION. The state of the system: every instance with every piece of state R16 gives it, the outputs of the latest operation,
and the operations presented and not yet performed. -/

namespace Sys2Proof.Machine

/-! ## The fields the spec's records are made of -/

/-- Delivery modes of the LVT and the ICR (R36, R83). -/
inductive DeliveryMode where
  | fixed | lowestPriority | smi | nmi | init | startup | extInt
deriving DecidableEq, Repr

/-- The requests that leave on `ctl_event` instead of being posted (R72 e). -/
inductive CtlKind where
  | init | startup | smi | nmi | extInt
deriving DecidableEq, Repr

/-- Trigger mode (R30, R36). -/
inductive Trigger where
  | edge | level
deriving DecidableEq, Repr

/-- The level field of a request (R34, R182). -/
inductive Level where
  | deassert | assert
deriving DecidableEq, Repr

/-- Destination mode (R34). -/
inductive DestMode where
  | physical | logical
deriving DecidableEq, Repr

/-- Destination shorthand (R34). -/
inductive Shorthand where
  | none | self | allIncludingSelf | allExcludingSelf
deriving DecidableEq, Repr

/-- Delivery status of the ICR (R34). -/
inductive DeliveryStatus where
  | idle | pending
deriving DecidableEq, Repr

/-- The timer mode, `LVT_TIMER[18:17]` (R36, R158). -/
inductive TimerMode where
  | oneShot | periodic | tscDeadline
deriving DecidableEq, Repr

/-- The states of the timer (R48). `expiredPendingReload` exists only inside one tick. -/
inductive TimerState where
  | disarmed | running | expiredPendingReload
deriving DecidableEq, Repr

/-- The seven local sources (R144). -/
inductive LvtSource where
  | timer | thermal | perfmon | lint0 | lint1 | error | cmci
deriving DecidableEq, Repr

/-- The decoded view of an LVT register (R36, R145). `polarity` is the bit 13 that `encode` carries through for LINT0 and LINT1;
`timerMode` is present for the timer only. -/
structure LvtEntry where
  vector : Vec
  deliveryMode : DeliveryMode
  mask : Bool
  trigger : Trigger
  remoteIrr : Bool
  polarity : Bool
  timerMode : Option TimerMode
deriving DecidableEq, Repr

/-- The decoded Interrupt Command Register (R82, R182). -/
structure IcrValue where
  destination : BitVec 8
  vector : Vec
  deliveryMode : DeliveryMode
  destMode : DestMode
  level : Level
  trigger : Trigger
  shorthand : Shorthand
  status : DeliveryStatus
deriving DecidableEq, Repr

/-! ## Outputs -/

/-- The errors of an operation with the information that goes back with the response (R13 d, R190 to R194, log 23). -/
inductive Error where
  /-- A malformed MMIO access: its offset and its size code (R191). -/
  | malformedAccess (off : BitVec 12) (sz : BitVec 3)
  /-- A reserved port id, refused with the same status (R142, R191). -/
  | malformedPort (op : BitVec 8)
  /-- A vector below 16 where a Fixed vector is needed (R192). -/
  | illegalVector (v : Vec)
  /-- A shorthand together with a nonzero destination (R193). -/
  | invalidDestination (icr : IcrValue)
  /-- A destination that matches no instance (R194). -/
  | unresolvedTarget (dest : BitVec 8)
deriving DecidableEq, Repr

/-- The data of a response (R76): absent, 32 bits, 64 bits, or the 9 bits of PENDING_VECTOR and ACCEPT. -/
inductive RData where
  | none
  | word (v : Word)
  | dword (v : BitVec 64)
  | vec (v : BitVec 9)
deriving DecidableEq, Repr

/-- The response to one command (R76). -/
structure Response where
  error : Option Error
  rdata : RData
deriving DecidableEq, Repr

/-- Who a request on `ctl_event` comes from: an IPI's sender or a local source (R72 e). -/
inductive Origin where
  | sender (id : ApicId)
  | lvt (src : LvtSource)
deriving DecidableEq, Repr

/-- One event on the `ctl_event` port (R72 e). -/
structure CtlEvent where
  kind : CtlKind
  vector : Vec
  level : Level
  trigger : Trigger
  origin : Origin
deriving DecidableEq, Repr

/-- One `DELIVER_IPI` that an instance makes another perform, on the `ipi_out` port (R72 f). -/
structure IpiOut where
  target : ApicId
  msg : BitVec 40
deriving DecidableEq, Repr

/-- The outputs of the latest operation (R72). An output is no state of the block (R20): this is the model's record of it, written
anew by every operation (log 18). `ctl` pairs an event with the instance that emitted it; the order of `ctl` and of `ipi` carries no
meaning (log 11). -/
structure Outputs where
  resp : Option Response
  ctl : List (ApicId × CtlEvent)
  ipi : List IpiOut
deriving DecidableEq, Repr

/-! ## One instance -/

/-- One Local APIC (R16). `ID` and `VERSION` are constants of `par`; `PPR` and `EOI` have no storage; the 24 bank registers are the three
bitmaps; holes hold nothing. -/
structure Lapic where
  /-- The parameters of this instance (R10). -/
  par : Params
  /-- Task Priority Register (R23). -/
  tpr : Word
  /-- Logical Destination Register (R26). -/
  ldr : Word
  /-- Destination Format Register (R27). -/
  dfr : Word
  /-- Spurious-Interrupt Vector Register (R28). -/
  svr : Word
  /-- In-Service Register: accepted, awaiting EOI (R29). -/
  isr : Bitmap
  /-- Trigger Mode Register: 1 = Level, as recorded by the last successful post (R30). -/
  tmr : Bitmap
  /-- Interrupt Request Register: pending, not yet accepted (R31). -/
  irr : Bitmap
  /-- Error Status Register (R32). -/
  esr : Word
  /-- LVT entries (R33, R37 to R42). -/
  lvtCmci : Word
  lvtTimer : Word
  lvtThermal : Word
  lvtPerfmon : Word
  lvtLint0 : Word
  lvtLint1 : Word
  lvtError : Word
  /-- Interrupt Command Register, low half (R34). -/
  icrLo : Word
  /-- Interrupt Command Register, high half (R35). -/
  icrHi : Word
  /-- Timer Initial Count (R43). -/
  ticr : Word
  /-- Timer Current Count (R44). -/
  tccr : Word
  /-- Timer Divide Configuration (R45). -/
  tdcr : Word
  /-- TSC-deadline register (R46). -/
  tscdl : BitVec 64
  /-- Input ticks counted since the last decrement of TCCR, 0 to 127 (R47, log 16). -/
  presc : Nat
deriving DecidableEq, Repr

/-- Every register at its reset value (R55, R143). -/
def Lapic.reset (p : Params) : Lapic where
  par := p
  tpr := 0#32
  ldr := 0#32
  dfr := 0xF0000000#32
  svr := p.svrReset
  isr := 0#256
  tmr := 0#256
  irr := 0#256
  esr := 0#32
  lvtCmci := 0x00010000#32
  lvtTimer := 0x00010000#32
  lvtThermal := 0x00010000#32
  lvtPerfmon := 0x00010000#32
  lvtLint0 := 0x00010000#32
  lvtLint1 := 0x00010000#32
  lvtError := 0x00010000#32
  icrLo := 0#32
  icrHi := 0#32
  ticr := 0#32
  tccr := 0#32
  tdcr := 0#32
  tscdl := 0#64
  presc := 0

/-! ## The system -/

/-- The LDR and the DFR of a target as a send of another instance read them, at one moment (R184, log 27). -/
structure Look where
  sender : ApicId
  target : ApicId
  ldr : Word
  dfr : Word
deriving DecidableEq, Repr

/-- The system of instances (R9, R64). The operation being performed acts on `self`; `peers` are the other instances of `VCPUS`. -/
structure State where
  /-- The instance the current operation is presented to. -/
  self : Lapic
  /-- The other instances an IPI can reach (R9); their order carries no meaning. -/
  peers : List Lapic
  /-- System parameters (R10). -/
  platform : Platform
  /-- Operations presented and not yet performed, in the order they arrived, and the moments at which begun sends read their targets (R66,
  R184); the model's own (log 3, log 27). -/
  queue : List Presented
  /-- Outputs of the latest operation; the model's own (log 18). -/
  out : Outputs
  /-- How many LowestPriority elections have been made; the model's own counter for the free value of R185 (log 8). -/
  picks : Nat
  /-- What sends that have begun have read of their targets so far, oldest first; the model's own (R184, log 27). -/
  looks : List Look
  /-- What the operation being performed read of other instances before the present moment; the model's own (R184, log 27). -/
  seen : List Look
deriving DecidableEq, Repr

/-- `VCPUS`: every instance of the system (R9). -/
def State.vcpus (s : State) : List Lapic := s.self :: s.peers

/-- A system of the given instances, each just constructed (R211), nothing presented and nothing answered. -/
def State.boot (plat : Platform) (first : Params) (others : List Params) : State where
  self := Lapic.reset first
  peers := others.map Lapic.reset
  platform := plat
  queue := []
  out := { resp := none, ctl := [], ipi := [] }
  picks := 0
  looks := []
  seen := []

/-- The machine right after reset: every parameter at its default and every register at its reset value (R10, R55). `VCPUS` is "given
by the platform"; this system is the one of the spec's worked sends (R189), three instances with `APIC_ID` 0, 1, 2 (log 1). -/
def State.reset : State := State.boot { } { apicId := 0#8 } [{ apicId := 1#8 }, { apicId := 2#8 }]

/-- Why the machine can stop. No operation of the block stops (R197). -/
inductive Fault where
  /-- Raised by `step` alone: the presented operation, or the send that looks, is of an instance that is not in the system.
  SAFE: the spec has no such operation, and the machine stops where a platform might go on (log 5). -/
  | noSuchInstance (cpu : ApicId)
deriving DecidableEq, Repr

/-- Why an operation can be refused. -/
inductive Refusal where
  /-- Raised by an arm of `exec` whose instruction has no meaning yet; no arm does. SAFE: nothing is claimed of that instruction. -/
  | notModelled (mnemonic : String)
deriving DecidableEq, Repr

end Sys2Proof.Machine
end

