-- ==== Sys2Proof/Machine/Operands.lean ====
section
/-! DEFINITION. Field and operand assembly (R79 to R84, R145): write masks, bitmaps and their bank registers, priority classes, mode
coercion, the decoded views of the LVT and ICR registers, the divide value, and the value a read of each register returns. -/

namespace Sys2Proof.Machine

/-! ## Words and masks -/

/-- `v` with the `w` bits from `lo` up replaced by `x`. -/
def setBits (v : Word) (lo : Nat) (x : BitVec w) : Word :=
  (v &&& ~~~((BitVec.allOnes w).setWidth 32 <<< lo)) ||| (x.setWidth 32 <<< lo)

/-- The write mask `WM` of each register: the bits a bus write can change (R77). -/
def writeMask : Reg → Word
  | .tpr => 0x000000FF#32
  | .ldr => 0xFF000000#32
  | .dfr => 0xF0000000#32
  | .svr => 0x000001FF#32
  | .lvtCmci => 0x000107FF#32
  | .icrLo => 0x000CCFFF#32
  | .icrHi => 0xFF000000#32
  | .lvtTimer => 0x000700FF#32
  | .lvtThermal => 0x000107FF#32
  | .lvtPerfmon => 0x000107FF#32
  | .lvtLint0 => 0x0001A7FF#32
  | .lvtLint1 => 0x0001A7FF#32
  | .lvtError => 0x000100FF#32
  | .ticr => 0xFFFFFFFF#32
  | .tdcr => 0x0000000B#32
  | .id | .version | .ppr | .eoi | .isr _ | .tmr _ | .irr _ | .esr | .tccr => 0x00000000#32

/-! ## The 256-bit bitmaps -/

/-- `S[v]` (R13 b). -/
def Bitmap.has (m : Bitmap) (v : Vec) : Bool := m.getLsbD v.toNat

/-- `S[v] <- 1`. -/
def Bitmap.set (m : Bitmap) (v : Vec) : Bitmap := m ||| (1#256 <<< v.toNat)

/-- `S[v] <- 0`. -/
def Bitmap.clear (m : Bitmap) (v : Vec) : Bitmap := m &&& ~~~(1#256 <<< v.toNat)

/-- `S[v] <- b`. -/
def Bitmap.put (m : Bitmap) (v : Vec) (b : Bool) : Bitmap := if b then Bitmap.set m v else Bitmap.clear m v

/-- `hsb(S)`: the greatest `v` with `S[v] = 1`, none when `S` is all zero (R13 b). -/
def hsb (m : Bitmap) : Option Vec := if m = 0#256 then none else some (BitVec.ofNat 8 m.toNat.log2)

/-- Bank register `k`: bit `i` of it is bit `32 k + i` of the bitmap (R80). -/
def bankWord (m : Bitmap) (k : Fin 8) : Word := bits m (32 * k) 32

/-! ## Priorities -/

/-- `cls(x) = x[7:4]`, the priority class of a vector or of a priority byte (R81). -/
def cls (x : BitVec 8) : BitVec 4 := bits x 4 4

/-- The task priority byte `TPR[7:0]` (R23). -/
def Lapic.tprByte (l : Lapic) : BitVec 8 := bits l.tpr 0 8

/-- The Processor Priority: TPR when its class is not below the highest in-service class, else that class with a zero low nibble
(R173). Evaluated at each use, never stored. -/
def Lapic.ppr (l : Lapic) : BitVec 8 :=
  let isrv := (hsb l.isr).getD 0#8
  if cls l.tprByte ≥ cls isrv then l.tprByte else cls isrv ++ 0#4

/-- `highest_priority_deliverable()`: the highest pending vector, if its class is strictly above the Processor Priority's (R174). -/
def Lapic.deliverable (l : Lapic) : Option Vec :=
  match hsb l.irr with
  | none => none
  | some v => if cls v > cls l.ppr then some v else none

/-- `spurious_fallback()` = `SVR[7:0]` (R179). -/
def Lapic.spurious (l : Lapic) : Vec := bits l.svr 0 8

/-! ## Mode patterns -/

/-- `Coerce(legal, p)`: the greatest member of `legal` not above `p`, unsigned; every legal set holds 0 (R147, D16, log 17). -/
def coerce {w : Nat} (legal : List (BitVec w)) (p : BitVec w) : BitVec w :=
  (legal.filter (· ≤ p)).foldl (fun best x => if best < x then x else best) 0

/-- Legal delivery modes of CMCI, Thermal and Performance Counter (R146). -/
def legalBasic : List (BitVec 3) := [0b000#3, 0b010#3, 0b100#3]

/-- Legal delivery modes of LINT0 and LINT1 (R146). -/
def legalLint : List (BitVec 3) := [0b000#3, 0b010#3, 0b100#3, 0b101#3, 0b111#3]

/-- Legal delivery modes of the ICR (R83, R119). -/
def legalIcr : List (BitVec 3) := [0b000#3, 0b001#3, 0b010#3, 0b100#3, 0b101#3, 0b110#3, 0b111#3]

/-- Legal timer modes (R147). -/
def legalTimerMode : List (BitVec 2) := [0b00#2, 0b01#2, 0b10#2]

/-- The legal delivery modes of a local source; Timer and Error are Fixed only and have no such field (R146). -/
def legalModes : LvtSource → List (BitVec 3)
  | .timer | .error => [0b000#3]
  | .thermal | .perfmon | .cmci => legalBasic
  | .lint0 | .lint1 => legalLint

/-- The name of a delivery-mode pattern (R36, R83). `0b011` is legal nowhere and is always coerced first. -/
def DeliveryMode.ofBits (p : BitVec 3) : DeliveryMode :=
  match p.toNat with
  | 0 => .fixed
  | 1 => .lowestPriority
  | 2 => .smi
  | 3 => .smi
  | 4 => .nmi
  | 5 => .init
  | 6 => .startup
  | _ => .extInt

/-- The pattern of a delivery mode (R36, R83). -/
def DeliveryMode.toBits : DeliveryMode → BitVec 3
  | .fixed => 0b000#3
  | .lowestPriority => 0b001#3
  | .smi => 0b010#3
  | .nmi => 0b100#3
  | .init => 0b101#3
  | .startup => 0b110#3
  | .extInt => 0b111#3

/-- The `ctl_event` kind of a delivery mode; Fixed and LowestPriority requests are vectors and are posted (R150, R187). -/
def DeliveryMode.ctlKind : DeliveryMode → Option CtlKind
  | .fixed | .lowestPriority => none
  | .smi => some .smi
  | .nmi => some .nmi
  | .init => some .init
  | .startup => some .startup
  | .extInt => some .extInt

/-- 1 = Level, 0 = Edge (R30, R36). -/
def Trigger.ofBool (b : Bool) : Trigger := if b then .level else .edge

/-- 1 = Assert, 0 = Deassert (R34). -/
def Level.ofBool (b : Bool) : Level := if b then .assert else .deassert

/-- The name of a timer mode pattern; `0b11` is never stored (R36, R158). -/
def TimerMode.ofBits (p : BitVec 2) : TimerMode :=
  match (coerce legalTimerMode p).toNat with
  | 0 => .oneShot
  | 1 => .periodic
  | _ => .tscDeadline

/-- The pattern of a timer mode (R36). -/
def TimerMode.toBits : TimerMode → BitVec 2
  | .oneShot => 0b00#2
  | .periodic => 0b01#2
  | .tscDeadline => 0b10#2

/-! ## The LVT entries -/

/-- Whether trigger mode, polarity and remote_irr apply to a source (R146). -/
def LvtSource.isLint : LvtSource → Bool
  | .lint0 | .lint1 => true
  | _ => false

/-- The register of a local source (R144). -/
def Lapic.lvt (l : Lapic) : LvtSource → Word
  | .timer => l.lvtTimer
  | .thermal => l.lvtThermal
  | .perfmon => l.lvtPerfmon
  | .lint0 => l.lvtLint0
  | .lint1 => l.lvtLint1
  | .error => l.lvtError
  | .cmci => l.lvtCmci

/-- `decode(raw)` of R145, pure and total: a pattern no register can hold reads as the pattern it would have been coerced to
(log 13). -/
def decodeLvt (src : LvtSource) (raw : Word) : LvtEntry where
  vector := bits raw 0 8
  deliveryMode := DeliveryMode.ofBits (coerce (legalModes src) (bits raw 8 3))
  mask := raw.getLsbD 16
  trigger := Trigger.ofBool (src.isLint && raw.getLsbD 15)
  remoteIrr := src.isLint && raw.getLsbD 14
  polarity := src.isLint && raw.getLsbD 13
  timerMode := if src = .timer then some (TimerMode.ofBits (bits raw 17 2)) else none

/-- `encode(LvtEntry)` of R145: the entry's fields in their places and zero elsewhere. -/
def encodeLvt (e : LvtEntry) : Word :=
  let mode := match e.timerMode with
    | some m => m.toBits
    | none => 0#2
  setBits (setBits (setBits (setBits (setBits (setBits (setBits 0#32 0 e.vector) 8 e.deliveryMode.toBits)
    13 (BitVec.ofBool e.polarity)) 14 (BitVec.ofBool e.remoteIrr)) 15 (BitVec.ofBool (e.trigger = .level)))
    16 (BitVec.ofBool e.mask)) 17 mode

/-- The masked store of R90: `(value & WM) | (old & ~WM)`. -/
def maskedStore (wm value old : Word) : Word := (value &&& wm) ||| (old &&& ~~~wm)

/-- The value an LVT write stores (R91): masked, the delivery mode coerced where the register has the field, and for the timer the
mode field coerced. `old & ~WM` keeps `remote_irr` of LINT0 and LINT1. -/
def lvtStored (r : Reg) (src : LvtSource) (value old : Word) : Word :=
  let new := maskedStore (writeMask r) value old
  let new := if bits (writeMask r) 8 3 ≠ 0#3 then setBits new 8 (coerce (legalModes src) (bits new 8 3)) else new
  if src = .timer then setBits new 17 (coerce legalTimerMode (bits new 17 2)) else new

/-! ## The timer -/

/-- `mode()` (R158). -/
def Lapic.mode (l : Lapic) : TimerMode := TimerMode.ofBits (bits l.lvtTimer 17 2)

/-- `d = TDCR[3] || TDCR[1] || TDCR[0]` (R84). -/
def divideSelect (tdcr : Word) : BitVec 3 := bits tdcr 3 1 ++ bits tdcr 0 2

/-- `divide_value()`: 1 if `d = 7`, else `2 << d` (R84). -/
def Lapic.divideValue (l : Lapic) : Nat :=
  if divideSelect l.tdcr = 7#3 then 1 else 2 <<< (divideSelect l.tdcr).toNat

/-! ## The ICR -/

/-- The value a write of ICR_LO stores: masked, delivery mode coerced (R119). -/
def icrLoStored (value : Word) : Word :=
  let new := value &&& writeMask .icrLo
  setBits new 8 (coerce legalIcr (bits new 8 3))

/-- The shorthand field (R34). -/
def Shorthand.ofBits (p : BitVec 2) : Shorthand :=
  match p.toNat with
  | 0 => .none
  | 1 => .self
  | 2 => .allIncludingSelf
  | _ => .allExcludingSelf

/-- The `IcrValue` of the two halves (R82). -/
def assembleIcr (hi lo : Word) : IcrValue where
  destination := bits hi 24 8
  vector := bits lo 0 8
  deliveryMode := DeliveryMode.ofBits (coerce legalIcr (bits lo 8 3))
  destMode := if lo.getLsbD 11 then .logical else .physical
  level := Level.ofBool (lo.getLsbD 14)
  trigger := Trigger.ofBool (lo.getLsbD 15)
  shorthand := Shorthand.ofBits (bits lo 18 2)
  status := if lo.getLsbD 12 then .pending else .idle

/-- The IPI message `APIC_ID || (ICR_LO with bit 12 = 0)` (R75, R183). -/
def Lapic.ipiMessage (l : Lapic) : BitVec 40 := l.par.apicId ++ (l.icrLo &&& ~~~0x00001000#32)

/-- The default of `ResolveLogical` for one target: the flat or cluster match on its LDR and DFR (R184). -/
def logicalMatch (ldr dfr : Word) (dest : BitVec 8) : Bool :=
  if bits dfr 28 4 = 0xF#4 then bits ldr 24 8 &&& dest != 0#8
  else if bits dfr 28 4 = 0x0#4 then bits ldr 28 4 == bits dest 4 4 && bits ldr 24 4 &&& bits dest 0 4 != 0#4
  else false

/-- The LDR and the DFR the operation being performed reads of a target: what it has read already, else what they are now (R184,
log 27). -/
def State.logicalView (s : State) (t : Lapic) : Word × Word :=
  match s.seen.find? (·.target = t.par.apicId) with
  | some k => (k.ldr, k.dfr)
  | none => (t.ldr, t.dfr)

/-! ## Reads -/

/-- The value a well-formed read of a register returns (R92 to R137). -/
def Lapic.readReg (l : Lapic) : Reg → Word
  | .id => l.par.apicId ++ 0#24
  | .version => l.par.version
  | .tpr => l.tpr
  | .ppr => l.ppr.setWidth 32
  | .eoi => 0#32
  | .ldr => l.ldr
  | .dfr => l.dfr
  | .svr => l.svr
  | .isr k => bankWord l.isr k
  | .tmr k => bankWord l.tmr k
  | .irr k => bankWord l.irr k
  | .esr => l.esr
  | .lvtCmci => l.lvtCmci
  | .icrLo => l.icrLo
  | .icrHi => l.icrHi
  | .lvtTimer => l.lvtTimer
  | .lvtThermal => l.lvtThermal
  | .lvtPerfmon => l.lvtPerfmon
  | .lvtLint0 => l.lvtLint0
  | .lvtLint1 => l.lvtLint1
  | .lvtError => l.lvtError
  | .ticr => l.ticr
  | .tccr => l.tccr
  | .tdcr => l.tdcr

/-- The value at a 4-byte-aligned offset: its register, or `HOLE_READ_VALUE` at a hole (R59, R89). -/
def Lapic.readOffset (l : Lapic) (off : BitVec 12) : Word :=
  match regAt off with
  | some r => l.readReg r
  | none => l.par.holeRead

/-- The byte a byte-addressed platform shows the owner of `self` at a physical address: byte `j` of the register at `off` is bits
`8 j + 7` to `8 j`, little-endian (R57); none outside the 4 KB page at `MMIO_BASE` (log 24). -/
def State.busByte (s : State) (addr : BitVec 64) : Option Byte :=
  if bits addr 12 52 = s.platform.mmioPage then
    some (bits (s.self.readOffset (bits addr 0 12 &&& 0xFFC#12)) (8 * (bits addr 0 2).toNat) 8)
  else none

end Sys2Proof.Machine
end

