-- ==== Sys2Proof/Machine/Flags.lean ====
section
/-! DEFINITION. The status bits (R20): ESR, remote_irr, `intr_pending`, the response status, and the derived timer state. The
delivery status `ICR_LO[12]` is 1 only inside a send and is never held (R49, log 12). -/

namespace Sys2Proof.Machine

/-- `esr_record(b)`: an OR into ESR, off when `ESR_RECORD` is false (R196). -/
def Lapic.esrRecord (l : Lapic) (b : Nat) : Lapic :=
  if l.par.esrRecord then { l with esr := l.esr ||| (1#32 <<< b) } else l

/-- ESR bit 2, Send Accept Error (R32). -/
def esrSendAccept : Nat := 2

/-- ESR bit 5, Send Illegal Vector (R32). -/
def esrSendIllegalVector : Nat := 5

/-- ESR bit 6, Received Illegal Vector (R32). -/
def esrReceivedIllegalVector : Nat := 6

/-- `L[14] <- 1` for a LINT entry; no other entry has the bit (R36, R150). -/
def Lapic.setRemoteIrr (l : Lapic) : LvtSource → Lapic
  | .lint0 => { l with lvtLint0 := l.lvtLint0 ||| 0x00004000#32 }
  | .lint1 => { l with lvtLint1 := l.lvtLint1 ||| 0x00004000#32 }
  | _ => l

/-- What a LINT register becomes when a level-triggered vector `v` is retired: `remote_irr` falls if the entry's vector is `v` (R180). -/
def ackRemoteIrr (raw : Word) (v : Vec) : Word :=
  if bits raw 0 8 = v ∧ raw.getLsbD 14 then raw &&& ~~~0x00004000#32 else raw

/-- `intr_pending` of one instance (R175). -/
def Lapic.intrPending (l : Lapic) : Bool := l.deliverable.isSome

/-- `intr_pending` of the instance the current operation is presented to (R72 d). -/
def State.intrPending (s : State) : Bool := s.self.intrPending

/-- The timer's state between operations (R48). -/
def Lapic.timerState (l : Lapic) : TimerState :=
  match l.mode with
  | .oneShot | .periodic => if l.tccr ≠ 0#32 then .running else .disarmed
  | .tscDeadline => if l.tscdl ≠ 0#64 then .running else .disarmed

/-- The 3-bit status of a response (R190). -/
def Response.status (r : Response) : BitVec 3 :=
  match r.error with
  | none => 0#3
  | some (.malformedAccess _ _) => 1#3
  | some (.malformedPort _) => 1#3
  | some (.illegalVector _) => 2#3
  | some (.invalidDestination _) => 3#3
  | some (.unresolvedTarget _) => 4#3

end Sys2Proof.Machine
end

