-- ==== Sys2Proof/Machine/Ops.lean ====
section
/-! DEFINITION. The shared operations: how an operation answers, raises an error or emits an event (R13, R76, R190); posting (R172),
acceptance and end of interrupt, the block's part of trap entry and return (R177, R180, R202, R203); register reads and dropped
writes; local events (R150); receiving and sending an IPI (R183, R187); and which instance an operation is presented to (R9, R66). -/

namespace Sys2Proof.Machine

/-- What a meaning answers. -/
abbrev Result := Host.Outcome State Fault Refusal

/-! ## Ending an operation -/

/-- An operation ends with status OK, the given data, and `self` as `l`; nothing else is emitted (R13 d, R76). -/
def State.reply (s : State) (l : Lapic) (d : RData) : Result :=
  .next { s with self := l, out := { resp := some { error := none, rdata := d }, ctl := [], ipi := [] } }

/-- `raise <Error>(info)`: the operation ends with the error's status; state written before it is kept, there is no control transfer
and the block is ready for the next operation (R13 d, R190). -/
def State.raise (s : State) (l : Lapic) (e : Error) (d : RData) : Result :=
  .next { s with self := l, out := { resp := some { error := some e, rdata := d }, ctl := [], ipi := [] } }

/-- An operation that emits one `ctl_event` and ends with status OK (R13 f, R72 e). -/
def State.emit (s : State) (l : Lapic) (e : CtlEvent) : Result :=
  .next { s with
    self := l
    out := { resp := some { error := none, rdata := .none }, ctl := [(l.par.apicId, e)], ipi := [] } }

/-! ## Register accesses -/

/-- `RD` of a register: its value, and no state changes (R61, R89). -/
def State.readRegister (s : State) (r : Reg) : Result := s.reply s.self (.word (s.self.readReg r))

/-- A write that is wholly dropped: `WM = 0` or a hole, status OK (R85 d, R195). -/
def State.dropWrite (s : State) : Result := s.reply s.self .none

/-- A write that leaves `self` as `l`, status OK (R90). -/
def State.wrote (s : State) (l : Lapic) : Result := s.reply l .none

/-! ## The Interrupt Delivery Engine -/

/-- The three results of `post` (R172). -/
inductive PostResult where
  | posted | alreadyPending | illegalVector
deriving DecidableEq, Repr

/-- `post(v, tm)` (R172): a vector below 16 is rejected and logged, a pending one is left as it is, any other becomes pending with its
trigger mode recorded. -/
def Lapic.post (l : Lapic) (v : Vec) (tm : Trigger) : PostResult × Lapic :=
  if v.toNat < 16 then (.illegalVector, l.esrRecord esrReceivedIllegalVector)
  else if Bitmap.has l.irr v then (.alreadyPending, l)
  else (.posted, { l with irr := Bitmap.set l.irr v, tmr := Bitmap.put l.tmr v (tm = .level) })

/-- `accept(v)`: from pending to in service in one step; refused, with nothing changed, when `v` is not pending (R177, D42). -/
def Lapic.accept (l : Lapic) (v : Vec) : Lapic :=
  if Bitmap.has l.irr v then { l with irr := Bitmap.clear l.irr v, isr := Bitmap.set l.isr v } else l

/-- `eoi()`: the highest in-service vector is retired; if it was level-triggered, `remote_irr` falls in each LINT entry that has its
vector (R180). -/
def Lapic.eoi (l : Lapic) : Lapic :=
  match hsb l.isr with
  | none => l
  | some v =>
    let retired := { l with isr := Bitmap.clear l.isr v }
    if Bitmap.has l.tmr v then
      { retired with lvtLint0 := ackRemoteIrr l.lvtLint0 v, lvtLint1 := ackRemoteIrr l.lvtLint1 v }
    else retired

/-! ## Local sources -/

/-- `fire(L, src)` (R150): a masked event is dropped, a Fixed one is posted, any other request leaves on `ctl_event`. -/
def State.fire (s : State) (src : LvtSource) : Result :=
  let e := decodeLvt src (s.self.lvt src)
  if e.mask then s.reply s.self .none
  else match e.deliveryMode.ctlKind with
    | none =>
      match s.self.post e.vector e.trigger with
      | (.posted, l) => s.reply (if e.trigger = .level then l.setRemoteIrr src else l) .none
      | (.alreadyPending, l) => s.reply l .none
      | (.illegalVector, l) => s.raise l (.illegalVector e.vector) .none
    | some k =>
      s.emit s.self { kind := k, vector := e.vector, level := .assert, trigger := e.trigger, origin := .lvt src }

/-! ## IPIs -/

/-- What `DELIVER_IPI` does to the instance it is performed on (R187): the instance after it, an error, an event. -/
structure Delivered where
  lapic : Lapic
  error : Option Error
  event : Option CtlEvent
deriving DecidableEq, Repr

/-- `DELIVER_IPI(msg)` on one instance (R187). -/
def Lapic.deliver (l : Lapic) (msg : BitVec 40) : Delivered :=
  let v : Vec := bits msg 0 8
  let trigger := Trigger.ofBool (msg.getLsbD 15)
  match (DeliveryMode.ofBits (coerce legalIcr (bits msg 8 3))).ctlKind with
  | none =>
    match l.post v trigger with
    | (.illegalVector, l') => { lapic := l', error := some (.illegalVector v), event := none }
    | (_, l') => { lapic := l', error := none, event := none }
  | some k =>
    { lapic := l, error := none
      event := some { kind := k, vector := v, level := Level.ofBool (msg.getLsbD 14), trigger := trigger
                      origin := .sender (bits msg 32 8) } }

/-- `ResolveLogical(self, dest)` (R184): the identifiers of the matching instances. Each target's LDR and DFR are those of one moment,
not all of the same (log 27). -/
def State.resolveLogical (s : State) (dest : BitVec 8) : List ApicId :=
  match s.platform.logical with
  | .flatCluster => (s.vcpus.filter fun t => logicalMatch (s.logicalView t).1 (s.logicalView t).2 dest).map (·.par.apicId)
  | .delegated rows =>
    (s.vcpus.map (·.par.apicId)).filter fun id =>
      rows.any fun r => r.sender = s.self.par.apicId && r.dest = dest && r.targets.contains id

/-- `resolve(icr)`: the identifiers of the instances a send reaches (R184). With a shorthand the destination mode is not used; no
identifier is a broadcast address. -/
def State.resolve (s : State) (icr : IcrValue) : List ApicId :=
  let ids := s.vcpus.map (·.par.apicId)
  match icr.shorthand, icr.destMode with
  | .self, _ => [s.self.par.apicId]
  | .allIncludingSelf, _ => ids
  | .allExcludingSelf, _ => ids.filter (· ≠ s.self.par.apicId)
  | .none, .physical => ids.filter (· = icr.destination)
  | .none, .logical => s.resolveLogical icr.destination

/-- Whether `a` comes before `b` in the deterministic election of R185: the lesser Processor Priority, then the lesser identifier. -/
def Lapic.electedBefore (a b : Lapic) : Bool :=
  a.ppr < b.ppr || (a.ppr == b.ppr && a.par.apicId < b.par.apicId)

/-- `PickLowest(targets)` (R185): a member of a nonempty set of targets, none of an empty one. By default any member: the member at
the free value's place, read at the election counter (log 8). -/
def State.pickLowest (s : State) (targets : List ApicId) : Option ApicId :=
  match s.platform.pick with
  | .anyMember => targets[Config.pickLowest s.picks % targets.length]?
  | .leastPriority =>
    ((s.vcpus.filter fun t => targets.contains t.par.apicId).foldl
      (fun best t => match best with
        | none => some t
        | some b => if t.electedBefore b then some t else some b) none).map (·.par.apicId)

/-- Performs `DELIVER_IPI msg` on every instance whose identifier is among the targets and ends the send with status OK (R67, R183).
The deliveries touch different instances, so their order does not matter (log 10, log 11). A target's own later send is ordered after this
one (R66), so it sees every LDR written before it (R103): the delivery uses up the target's looks. DEDUCED (log 28). -/
def State.deliverAll (s : State) (targets : List ApicId) (msg : BitVec 40) : Result :=
  let run (t : Lapic) : Lapic := if targets.contains t.par.apicId then (t.deliver msg).lapic else t
  let events := s.vcpus.filterMap fun t =>
    if targets.contains t.par.apicId then (t.deliver msg).event.map fun e => (t.par.apicId, e) else none
  .next { s with
    self := run s.self
    peers := s.peers.map run
    looks := s.looks.filter fun k => !targets.contains k.sender
    out := { resp := some { error := none, rdata := .none }, ctl := events
             ipi := targets.map fun id => { target := id, msg := msg } } }

/-- `send()`, run after ICR_LO is stored (R183): the three checks in the order of R198, then the targets, the election of one target
for LowestPriority, and the deliveries. The delivery status is Idle again at the end of every path (R186, log 12). -/
def State.send (s : State) : Result :=
  let icr := assembleIcr s.self.icrHi s.self.icrLo
  if icr.shorthand ≠ .none ∧ icr.destination ≠ 0#8 then
    s.raise (s.self.esrRecord esrSendAccept) (.invalidDestination icr) .none
  else if icr.deliveryMode.ctlKind = none ∧ icr.vector.toNat < 16 then
    s.raise (s.self.esrRecord esrSendIllegalVector) (.illegalVector icr.vector) .none
  else if icr.shorthand = .none ∧ s.resolve icr = [] then
    s.raise (s.self.esrRecord esrSendAccept) (.unresolvedTarget icr.destination) .none
  else if icr.deliveryMode = .lowestPriority ∧ s.resolve icr ≠ [] then
    { s with picks := s.picks + 1 }.deliverAll (s.pickLowest (s.resolve icr)).toList s.self.ipiMessage
  else s.deliverAll (s.resolve icr) s.self.ipiMessage

/-! ## Presenting an operation -/

/-- The system seen from the instance with an identifier: that instance becomes `self` and the one that was `self` takes its place
among the peers; none when no instance has it (R9, log 5). -/
def State.focus (s : State) (id : ApicId) : Option State :=
  if s.self.par.apicId = id then some s
  else match s.peers.find? (·.par.apicId = id) with
    | none => none
    | some t => some { s with self := t, peers := s.peers.map fun p => if p.par.apicId = id then s.self else p }

/-- An operation presented to `self` comes to its end: what it has read of other instances is what was looked up for it, and no later
operation has it (R66, R184, log 27). DEDUCED (log 28): every operation performed on an instance uses up its looks, one presented to it
here, and a `DELIVER_IPI` that a peer's send performs on it in `State.deliverAll`. -/
def State.takeLooks (s : State) : State :=
  { s with
    seen := s.looks.filter fun k => k.sender = s.self.par.apicId
    looks := s.looks.filter fun k => k.sender ≠ s.self.par.apicId }

/-- The next operation of `cpu`, already begun, reads the LDR and the DFR of `target` at one moment; nothing to read when there is no such
instance (R184, log 27). -/
def State.look (s : State) (cpu target : ApicId) : State :=
  match s.vcpus.find? (·.par.apicId = target) with
  | none => s
  | some t => { s with looks := s.looks ++ [{ sender := cpu, target := target, ldr := t.ldr, dfr := t.dfr }] }

end Sys2Proof.Machine
end

