-- ==== Sys2Proof/Machine/Delivery.lean ====
section
/-! DEFINITION. The operations of the Interrupt Delivery Engine: PENDING_VECTOR, ACCEPT and the EOI write (R101, R176, R178). -/

namespace Sys2Proof.Machine

/-- The 9 bits `flag || vector` of PENDING_VECTOR and ACCEPT (R76). -/
def vecData (flag : Bool) (v : Vec) : RData := .vec (BitVec.ofBool flag ++ v)

/-- `PENDING_VECTOR`: what arbitration would choose; nothing changes (R176). -/
def execPendingVector (s : State) : Result :=
  match s.self.deliverable with
  | some v => s.reply s.self (vecData true v)
  | none => s.reply s.self (vecData false 0#8)

/-- `ACCEPT`, the block's part of trap entry: arbitration and acceptance in one step, or the spurious vector with nothing changed
(R178, R179, R202). -/
def execAccept (s : State) : Result :=
  match s.self.deliverable with
  | some v => s.reply (s.self.accept v) (vecData true v)
  | none => s.reply s.self (vecData false s.self.spurious)

/-- `WR_EOI`, the block's part of trap return: any value performs `eoi()` and nothing is stored (R101, R180, R203). -/
def execWrEoi (_value : Word) (s : State) : Result := s.wrote s.self.eoi

end Sys2Proof.Machine
end

