-- ==== Sys2Proof/Machine/Icr.lean ====
section
/-! DEFINITION. The ICR/IPI Dispatcher: the writes of the ICR halves and DELIVER_IPI (R119, R121, R182 to R188). -/

namespace Sys2Proof.Machine

/-- `WR_ICR_LO`: store, masked and coerced, and send; the stored value stays also when the send fails (R119). -/
def execWrIcrLo (value : Word) (s : State) : Result :=
  { s with self := { s.self with icrLo := icrLoStored value } }.send

/-- `WR_ICR_HI`: stored; no send happens (R121). -/
def execWrIcrHi (value : Word) (s : State) : Result :=
  s.wrote { s.self with icrHi := value &&& writeMask .icrHi }

/-- `DELIVER_IPI` presented to this instance (R187). -/
def execDeliverIpi (msg : BitVec 40) (s : State) : Result :=
  match s.self.deliver msg with
  | { lapic := l, error := some e, event := _ } => s.raise l e .none
  | { lapic := l, error := none, event := some e } => s.emit l e
  | { lapic := l, error := none, event := none } => s.reply l .none

end Sys2Proof.Machine
end

