-- ==== Sys2Proof/Machine/Lvt.lean ====
section
/-! DEFINITION. The local source events (R150 to R156). The seventh source, the timer, fires inside the Timer Engine. -/

namespace Sys2Proof.Machine

/-- `LVT_FIRE_CMCI` (R151). -/
def execLvtFireCmci (s : State) : Result := s.fire .cmci

/-- `LVT_FIRE_THERMAL` (R152). -/
def execLvtFireThermal (s : State) : Result := s.fire .thermal

/-- `LVT_FIRE_PERFMON` (R153). -/
def execLvtFirePerfmon (s : State) : Result := s.fire .perfmon

/-- `LVT_FIRE_LINT0` (R154). -/
def execLvtFireLint0 (s : State) : Result := s.fire .lint0

/-- `LVT_FIRE_LINT1` (R155). -/
def execLvtFireLint1 (s : State) : Result := s.fire .lint1

/-- `LVT_FIRE_ERROR` (R156). -/
def execLvtFireError (s : State) : Result := s.fire .error

end Sys2Proof.Machine
end

