-- ==== Sys2Proof/Machine/RegisterBank.lean ====
section
/-! DEFINITION. The Register Bank: every RD and WR operation but those of the timer, the EOI and the ICR, the holes and malformed
accesses, the reserved port ids, and RESET (R89 to R143). -/

namespace Sys2Proof.Machine

/-! ## Reads: each returns its register's value and changes nothing (R61, R89) -/

/-- `RD_ID` (R92). -/
def execRdId (s : State) : Result := s.readRegister .id

/-- `RD_VERSION` (R94). -/
def execRdVersion (s : State) : Result := s.readRegister .version

/-- `RD_TPR` (R96). -/
def execRdTpr (s : State) : Result := s.readRegister .tpr

/-- `RD_PPR` (R98). -/
def execRdPpr (s : State) : Result := s.readRegister .ppr

/-- `RD_EOI` (R100). -/
def execRdEoi (s : State) : Result := s.readRegister .eoi

/-- `RD_LDR` (R102). -/
def execRdLdr (s : State) : Result := s.readRegister .ldr

/-- `RD_DFR` (R104). -/
def execRdDfr (s : State) : Result := s.readRegister .dfr

/-- `RD_SVR` (R106). -/
def execRdSvr (s : State) : Result := s.readRegister .svr

/-- `RD_ISR0` (R108). -/
def execRdIsr0 (s : State) : Result := s.readRegister (.isr 0)

/-- `RD_ISR1` (R108). -/
def execRdIsr1 (s : State) : Result := s.readRegister (.isr 1)

/-- `RD_ISR2` (R108). -/
def execRdIsr2 (s : State) : Result := s.readRegister (.isr 2)

/-- `RD_ISR3` (R108). -/
def execRdIsr3 (s : State) : Result := s.readRegister (.isr 3)

/-- `RD_ISR4` (R108). -/
def execRdIsr4 (s : State) : Result := s.readRegister (.isr 4)

/-- `RD_ISR5` (R108). -/
def execRdIsr5 (s : State) : Result := s.readRegister (.isr 5)

/-- `RD_ISR6` (R108). -/
def execRdIsr6 (s : State) : Result := s.readRegister (.isr 6)

/-- `RD_ISR7` (R108). -/
def execRdIsr7 (s : State) : Result := s.readRegister (.isr 7)

/-- `RD_TMR0` (R110). -/
def execRdTmr0 (s : State) : Result := s.readRegister (.tmr 0)

/-- `RD_TMR1` (R110). -/
def execRdTmr1 (s : State) : Result := s.readRegister (.tmr 1)

/-- `RD_TMR2` (R110). -/
def execRdTmr2 (s : State) : Result := s.readRegister (.tmr 2)

/-- `RD_TMR3` (R110). -/
def execRdTmr3 (s : State) : Result := s.readRegister (.tmr 3)

/-- `RD_TMR4` (R110). -/
def execRdTmr4 (s : State) : Result := s.readRegister (.tmr 4)

/-- `RD_TMR5` (R110). -/
def execRdTmr5 (s : State) : Result := s.readRegister (.tmr 5)

/-- `RD_TMR6` (R110). -/
def execRdTmr6 (s : State) : Result := s.readRegister (.tmr 6)

/-- `RD_TMR7` (R110). -/
def execRdTmr7 (s : State) : Result := s.readRegister (.tmr 7)

/-- `RD_IRR0` (R112). -/
def execRdIrr0 (s : State) : Result := s.readRegister (.irr 0)

/-- `RD_IRR1` (R112). -/
def execRdIrr1 (s : State) : Result := s.readRegister (.irr 1)

/-- `RD_IRR2` (R112). -/
def execRdIrr2 (s : State) : Result := s.readRegister (.irr 2)

/-- `RD_IRR3` (R112). -/
def execRdIrr3 (s : State) : Result := s.readRegister (.irr 3)

/-- `RD_IRR4` (R112). -/
def execRdIrr4 (s : State) : Result := s.readRegister (.irr 4)

/-- `RD_IRR5` (R112). -/
def execRdIrr5 (s : State) : Result := s.readRegister (.irr 5)

/-- `RD_IRR6` (R112). -/
def execRdIrr6 (s : State) : Result := s.readRegister (.irr 6)

/-- `RD_IRR7` (R112). -/
def execRdIrr7 (s : State) : Result := s.readRegister (.irr 7)

/-- `RD_ESR` (R114). -/
def execRdEsr (s : State) : Result := s.readRegister .esr

/-- `RD_LVT_CMCI` (R116). -/
def execRdLvtCmci (s : State) : Result := s.readRegister .lvtCmci

/-- `RD_ICR_LO` (R118). -/
def execRdIcrLo (s : State) : Result := s.readRegister .icrLo

/-- `RD_ICR_HI` (R120). -/
def execRdIcrHi (s : State) : Result := s.readRegister .icrHi

/-- `RD_LVT_TIMER` (R122). -/
def execRdLvtTimer (s : State) : Result := s.readRegister .lvtTimer

/-- `RD_LVT_THERMAL` (R124). -/
def execRdLvtThermal (s : State) : Result := s.readRegister .lvtThermal

/-- `RD_LVT_PERFMON` (R126). -/
def execRdLvtPerfmon (s : State) : Result := s.readRegister .lvtPerfmon

/-- `RD_LVT_LINT0` (R128). -/
def execRdLvtLint0 (s : State) : Result := s.readRegister .lvtLint0

/-- `RD_LVT_LINT1` (R130). -/
def execRdLvtLint1 (s : State) : Result := s.readRegister .lvtLint1

/-- `RD_LVT_ERROR` (R132). -/
def execRdLvtError (s : State) : Result := s.readRegister .lvtError

/-- `RD_TICR` (R134). -/
def execRdTicr (s : State) : Result := s.readRegister .ticr

/-- `RD_TCCR` (R135). -/
def execRdTccr (s : State) : Result := s.readRegister .tccr

/-- `RD_TDCR` (R137). -/
def execRdTdcr (s : State) : Result := s.readRegister .tdcr

/-! ## Writes of read-only registers: wholly dropped (R85 d, R195) -/

/-- `WR_ID` (R93). -/
def execWrId (_value : Word) (s : State) : Result := s.dropWrite

/-- `WR_VERSION` (R95). -/
def execWrVersion (_value : Word) (s : State) : Result := s.dropWrite

/-- `WR_PPR` (R99). -/
def execWrPpr (_value : Word) (s : State) : Result := s.dropWrite

/-- `WR_ISR0` (R109). -/
def execWrIsr0 (_value : Word) (s : State) : Result := s.dropWrite

/-- `WR_ISR1` (R109). -/
def execWrIsr1 (_value : Word) (s : State) : Result := s.dropWrite

/-- `WR_ISR2` (R109). -/
def execWrIsr2 (_value : Word) (s : State) : Result := s.dropWrite

/-- `WR_ISR3` (R109). -/
def execWrIsr3 (_value : Word) (s : State) : Result := s.dropWrite

/-- `WR_ISR4` (R109). -/
def execWrIsr4 (_value : Word) (s : State) : Result := s.dropWrite

/-- `WR_ISR5` (R109). -/
def execWrIsr5 (_value : Word) (s : State) : Result := s.dropWrite

/-- `WR_ISR6` (R109). -/
def execWrIsr6 (_value : Word) (s : State) : Result := s.dropWrite

/-- `WR_ISR7` (R109). -/
def execWrIsr7 (_value : Word) (s : State) : Result := s.dropWrite

/-- `WR_TMR0` (R111). -/
def execWrTmr0 (_value : Word) (s : State) : Result := s.dropWrite

/-- `WR_TMR1` (R111). -/
def execWrTmr1 (_value : Word) (s : State) : Result := s.dropWrite

/-- `WR_TMR2` (R111). -/
def execWrTmr2 (_value : Word) (s : State) : Result := s.dropWrite

/-- `WR_TMR3` (R111). -/
def execWrTmr3 (_value : Word) (s : State) : Result := s.dropWrite

/-- `WR_TMR4` (R111). -/
def execWrTmr4 (_value : Word) (s : State) : Result := s.dropWrite

/-- `WR_TMR5` (R111). -/
def execWrTmr5 (_value : Word) (s : State) : Result := s.dropWrite

/-- `WR_TMR6` (R111). -/
def execWrTmr6 (_value : Word) (s : State) : Result := s.dropWrite

/-- `WR_TMR7` (R111). -/
def execWrTmr7 (_value : Word) (s : State) : Result := s.dropWrite

/-- `WR_IRR0` (R113). -/
def execWrIrr0 (_value : Word) (s : State) : Result := s.dropWrite

/-- `WR_IRR1` (R113). -/
def execWrIrr1 (_value : Word) (s : State) : Result := s.dropWrite

/-- `WR_IRR2` (R113). -/
def execWrIrr2 (_value : Word) (s : State) : Result := s.dropWrite

/-- `WR_IRR3` (R113). -/
def execWrIrr3 (_value : Word) (s : State) : Result := s.dropWrite

/-- `WR_IRR4` (R113). -/
def execWrIrr4 (_value : Word) (s : State) : Result := s.dropWrite

/-- `WR_IRR5` (R113). -/
def execWrIrr5 (_value : Word) (s : State) : Result := s.dropWrite

/-- `WR_IRR6` (R113). -/
def execWrIrr6 (_value : Word) (s : State) : Result := s.dropWrite

/-- `WR_IRR7` (R113). -/
def execWrIrr7 (_value : Word) (s : State) : Result := s.dropWrite

/-- `WR_ESR` (R115). -/
def execWrEsr (_value : Word) (s : State) : Result := s.dropWrite

/-- `WR_TCCR` (R136). -/
def execWrTccr (_value : Word) (s : State) : Result := s.dropWrite

/-! ## Masked stores: `value & WM`, as each register's own rule says (log 14) -/

/-- `WR_TPR` (R97). -/
def execWrTpr (value : Word) (s : State) : Result :=
  s.wrote { s.self with tpr := value &&& writeMask .tpr }

/-- `WR_LDR` (R103). -/
def execWrLdr (value : Word) (s : State) : Result :=
  s.wrote { s.self with ldr := value &&& writeMask .ldr }

/-- `WR_DFR` (R105). -/
def execWrDfr (value : Word) (s : State) : Result :=
  s.wrote { s.self with dfr := value &&& writeMask .dfr }

/-- `WR_SVR` (R107). -/
def execWrSvr (value : Word) (s : State) : Result :=
  s.wrote { s.self with svr := value &&& writeMask .svr }

/-! ## LVT stores (R91); the timer's is in Timer.lean -/

/-- `WR_LVT_CMCI` (R117). -/
def execWrLvtCmci (value : Word) (s : State) : Result :=
  s.wrote { s.self with lvtCmci := lvtStored .lvtCmci .cmci value s.self.lvtCmci }

/-- `WR_LVT_THERMAL` (R125). -/
def execWrLvtThermal (value : Word) (s : State) : Result :=
  s.wrote { s.self with lvtThermal := lvtStored .lvtThermal .thermal value s.self.lvtThermal }

/-- `WR_LVT_PERFMON` (R127). -/
def execWrLvtPerfmon (value : Word) (s : State) : Result :=
  s.wrote { s.self with lvtPerfmon := lvtStored .lvtPerfmon .perfmon value s.self.lvtPerfmon }

/-- `WR_LVT_LINT0` (R129). -/
def execWrLvtLint0 (value : Word) (s : State) : Result :=
  s.wrote { s.self with lvtLint0 := lvtStored .lvtLint0 .lint0 value s.self.lvtLint0 }

/-- `WR_LVT_LINT1` (R131). -/
def execWrLvtLint1 (value : Word) (s : State) : Result :=
  s.wrote { s.self with lvtLint1 := lvtStored .lvtLint1 .lint1 value s.self.lvtLint1 }

/-- `WR_LVT_ERROR` (R133). -/
def execWrLvtError (value : Word) (s : State) : Result :=
  s.wrote { s.self with lvtError := lvtStored .lvtError .error value s.self.lvtError }

/-! ## Holes, malformed accesses, reserved port ids, reset -/

/-- `RD_HOLE`: `HOLE_READ_VALUE`, status OK (R59, R138). -/
def execRdHole (_off : BitVec 12) (s : State) : Result := s.reply s.self (.word s.self.par.holeRead)

/-- `WR_HOLE`: nothing is stored, status OK (R59, R139). -/
def execWrHole (_off : BitVec 12) (_value : Word) (s : State) : Result := s.dropWrite

/-- `RD_MALFORMED`: MalformedAccess with the data `MALFORMED_READ_VALUE`, no state change (R58, R140, R191). -/
def execRdMalformed (sz : BitVec 3) (off : BitVec 12) (s : State) : Result :=
  s.raise s.self (.malformedAccess off sz) (.word s.self.par.malformedRead)

/-- `WR_MALFORMED`: MalformedAccess, no state change and no side effect even at EOI or ICR_LO (R58, R141, R191). -/
def execWrMalformed (sz : BitVec 3) (off : BitVec 12) (_value : BitVec 128) (s : State) : Result :=
  s.raise s.self (.malformedAccess off sz) .none

/-- `PORT_RESERVED`: refused with status MalformedAccess, no state change (R85 f, R142). -/
def execPortReserved (op : BitVec 8) (s : State) : Result := s.raise s.self (.malformedPort op) .none

/-- `RESET`: every piece of this instance's state takes its reset value; no event is emitted (R143, R211). -/
def execReset (s : State) : Result := s.reply (Lapic.reset s.self.par) .none

end Sys2Proof.Machine
end

