-- ==== Sys2Proof/Machine/Timer.lean ====
section
/-! DEFINITION. The Timer Engine (R157 to R170). -/

namespace Sys2Proof.Machine

/-- `expire()`: post the timer's vector as Edge, unless the entry is masked; the result of the post is not reported (R159). -/
def Lapic.expire (l : Lapic) : Lapic :=
  if l.lvtTimer.getLsbD 16 then l else (l.post (bits l.lvtTimer 0 8) .edge).2

/-- `timer_disarm()` (R165). -/
def Lapic.timerDisarm (l : Lapic) : Lapic := { l with tccr := 0#32, presc := 0, tscdl := 0#64 }

/-- One input tick (R162). -/
def Lapic.tickOne (l : Lapic) : Lapic :=
  if l.mode = .tscDeadline ∨ l.tccr = 0#32 then l
  else if l.presc + 1 < l.divideValue then { l with presc := l.presc + 1 }
  else
    let l := { l with presc := 0, tccr := l.tccr - 1#32 }
    if l.tccr = 0#32 then
      let l := l.expire
      if l.mode = .periodic then { l with tccr := l.ticr } else l
    else l

/-- `repeat n times: tick1()`, the meaning R163 gives `TICK n`. -/
def Lapic.tickTimes (l : Lapic) : Nat → Lapic
  | 0 => l
  | n + 1 => l.tickOne.tickTimes n

/-- `TICK n` in the closed form of R164, which is what the machine computes: `n` may be any 64-bit number. It is written so that it
equals `tickTimes` on every state, also where `presc` or TCCR is beyond its bound or TICR is 0 while TCCR is not, which no run
reaches (log 15): the bound on `presc` and the case `l.ticr = 0` are for those. -/
def Lapic.tickBy (l : Lapic) (n : Nat) : Lapic :=
  if l.mode = .tscDeadline ∨ l.tccr = 0#32 ∨ n = 0 then l
  else
    let d := l.divideValue
    let total := min l.presc (d - 1) + n
    let steps := total / d
    let r := total % d
    let count := l.tccr.toNat
    if steps < count then { l with tccr := BitVec.ofNat 32 (count - steps), presc := r }
    else if l.mode = .periodic ∧ l.ticr ≠ 0#32 then
      { l.expire with tccr := BitVec.ofNat 32 (l.ticr.toNat - (steps - count) % l.ticr.toNat), presc := r }
    else { l.expire with tccr := 0#32, presc := 0 }

/-- `WR_TICR`: store, and in a count-down mode load the count (R160). -/
def execWrTicr (value : Word) (s : State) : Result :=
  s.wrote { s.self with
    ticr := value
    presc := 0
    tccr := if s.self.mode = .tscDeadline then s.self.tccr else value }

/-- `WR_TDCR`: store and clear the prescaler; the count is not rescaled (R161). -/
def execWrTdcr (value : Word) (s : State) : Result :=
  s.wrote { s.self with tdcr := value &&& writeMask .tdcr, presc := 0 }

/-- `WR_LVT_TIMER`: store, and disarm when and only when the stored mode field changes (R123, R165). -/
def execWrLvtTimer (value : Word) (s : State) : Result :=
  let new := lvtStored .lvtTimer .timer value s.self.lvtTimer
  let l := { s.self with lvtTimer := new }
  s.wrote (if bits new 17 2 = bits s.self.lvtTimer 17 2 then l else l.timerDisarm)

/-- `TICK n` (R163, R164); always OK. -/
def execTick (elapsed : BitVec 64) (s : State) : Result := s.reply (s.self.tickBy elapsed.toNat) .none

/-- `TICK_TSC t` (R168); always OK. -/
def execTickTsc (now : BitVec 64) (s : State) : Result :=
  if s.self.mode = .tscDeadline ∧ s.self.tscdl ≠ 0#64 ∧ now ≥ s.self.tscdl then
    s.reply { s.self.expire with tscdl := 0#64 } .none
  else s.reply s.self .none

/-- `WR_TSCDL`: stored in TscDeadline mode, ignored in the others (R166). -/
def execWrTscdl (deadline : BitVec 64) (s : State) : Result :=
  s.wrote (if s.self.mode = .tscDeadline then { s.self with tscdl := deadline } else s.self)

/-- `RD_TSCDL` (R167). -/
def execRdTscdl (s : State) : Result := s.reply s.self (.dword s.self.tscdl)

end Sys2Proof.Machine
end

