-- ==== Sys2Proof/Machine/Dispatch.lean ====
section
/-! DEFINITION. One arm per operation (R78). -/

namespace Sys2Proof.Machine

def exec (i : Instr) (s : State) : Host.Outcome State Fault Refusal :=
  match i with
  | .rdId => Sys2Proof.Machine.execRdId s
  | .wrId value => Sys2Proof.Machine.execWrId value s
  | .rdVersion => Sys2Proof.Machine.execRdVersion s
  | .wrVersion value => Sys2Proof.Machine.execWrVersion value s
  | .rdTpr => Sys2Proof.Machine.execRdTpr s
  | .wrTpr value => Sys2Proof.Machine.execWrTpr value s
  | .rdPpr => Sys2Proof.Machine.execRdPpr s
  | .wrPpr value => Sys2Proof.Machine.execWrPpr value s
  | .rdEoi => Sys2Proof.Machine.execRdEoi s
  | .wrEoi value => Sys2Proof.Machine.execWrEoi value s
  | .rdLdr => Sys2Proof.Machine.execRdLdr s
  | .wrLdr value => Sys2Proof.Machine.execWrLdr value s
  | .rdDfr => Sys2Proof.Machine.execRdDfr s
  | .wrDfr value => Sys2Proof.Machine.execWrDfr value s
  | .rdSvr => Sys2Proof.Machine.execRdSvr s
  | .wrSvr value => Sys2Proof.Machine.execWrSvr value s
  | .rdIsr0 => Sys2Proof.Machine.execRdIsr0 s
  | .wrIsr0 value => Sys2Proof.Machine.execWrIsr0 value s
  | .rdIsr1 => Sys2Proof.Machine.execRdIsr1 s
  | .wrIsr1 value => Sys2Proof.Machine.execWrIsr1 value s
  | .rdIsr2 => Sys2Proof.Machine.execRdIsr2 s
  | .wrIsr2 value => Sys2Proof.Machine.execWrIsr2 value s
  | .rdIsr3 => Sys2Proof.Machine.execRdIsr3 s
  | .wrIsr3 value => Sys2Proof.Machine.execWrIsr3 value s
  | .rdIsr4 => Sys2Proof.Machine.execRdIsr4 s
  | .wrIsr4 value => Sys2Proof.Machine.execWrIsr4 value s
  | .rdIsr5 => Sys2Proof.Machine.execRdIsr5 s
  | .wrIsr5 value => Sys2Proof.Machine.execWrIsr5 value s
  | .rdIsr6 => Sys2Proof.Machine.execRdIsr6 s
  | .wrIsr6 value => Sys2Proof.Machine.execWrIsr6 value s
  | .rdIsr7 => Sys2Proof.Machine.execRdIsr7 s
  | .wrIsr7 value => Sys2Proof.Machine.execWrIsr7 value s
  | .rdTmr0 => Sys2Proof.Machine.execRdTmr0 s
  | .wrTmr0 value => Sys2Proof.Machine.execWrTmr0 value s
  | .rdTmr1 => Sys2Proof.Machine.execRdTmr1 s
  | .wrTmr1 value => Sys2Proof.Machine.execWrTmr1 value s
  | .rdTmr2 => Sys2Proof.Machine.execRdTmr2 s
  | .wrTmr2 value => Sys2Proof.Machine.execWrTmr2 value s
  | .rdTmr3 => Sys2Proof.Machine.execRdTmr3 s
  | .wrTmr3 value => Sys2Proof.Machine.execWrTmr3 value s
  | .rdTmr4 => Sys2Proof.Machine.execRdTmr4 s
  | .wrTmr4 value => Sys2Proof.Machine.execWrTmr4 value s
  | .rdTmr5 => Sys2Proof.Machine.execRdTmr5 s
  | .wrTmr5 value => Sys2Proof.Machine.execWrTmr5 value s
  | .rdTmr6 => Sys2Proof.Machine.execRdTmr6 s
  | .wrTmr6 value => Sys2Proof.Machine.execWrTmr6 value s
  | .rdTmr7 => Sys2Proof.Machine.execRdTmr7 s
  | .wrTmr7 value => Sys2Proof.Machine.execWrTmr7 value s
  | .rdIrr0 => Sys2Proof.Machine.execRdIrr0 s
  | .wrIrr0 value => Sys2Proof.Machine.execWrIrr0 value s
  | .rdIrr1 => Sys2Proof.Machine.execRdIrr1 s
  | .wrIrr1 value => Sys2Proof.Machine.execWrIrr1 value s
  | .rdIrr2 => Sys2Proof.Machine.execRdIrr2 s
  | .wrIrr2 value => Sys2Proof.Machine.execWrIrr2 value s
  | .rdIrr3 => Sys2Proof.Machine.execRdIrr3 s
  | .wrIrr3 value => Sys2Proof.Machine.execWrIrr3 value s
  | .rdIrr4 => Sys2Proof.Machine.execRdIrr4 s
  | .wrIrr4 value => Sys2Proof.Machine.execWrIrr4 value s
  | .rdIrr5 => Sys2Proof.Machine.execRdIrr5 s
  | .wrIrr5 value => Sys2Proof.Machine.execWrIrr5 value s
  | .rdIrr6 => Sys2Proof.Machine.execRdIrr6 s
  | .wrIrr6 value => Sys2Proof.Machine.execWrIrr6 value s
  | .rdIrr7 => Sys2Proof.Machine.execRdIrr7 s
  | .wrIrr7 value => Sys2Proof.Machine.execWrIrr7 value s
  | .rdEsr => Sys2Proof.Machine.execRdEsr s
  | .wrEsr value => Sys2Proof.Machine.execWrEsr value s
  | .rdLvtCmci => Sys2Proof.Machine.execRdLvtCmci s
  | .wrLvtCmci value => Sys2Proof.Machine.execWrLvtCmci value s
  | .rdIcrLo => Sys2Proof.Machine.execRdIcrLo s
  | .wrIcrLo value => Sys2Proof.Machine.execWrIcrLo value s
  | .rdIcrHi => Sys2Proof.Machine.execRdIcrHi s
  | .wrIcrHi value => Sys2Proof.Machine.execWrIcrHi value s
  | .rdLvtTimer => Sys2Proof.Machine.execRdLvtTimer s
  | .wrLvtTimer value => Sys2Proof.Machine.execWrLvtTimer value s
  | .rdLvtThermal => Sys2Proof.Machine.execRdLvtThermal s
  | .wrLvtThermal value => Sys2Proof.Machine.execWrLvtThermal value s
  | .rdLvtPerfmon => Sys2Proof.Machine.execRdLvtPerfmon s
  | .wrLvtPerfmon value => Sys2Proof.Machine.execWrLvtPerfmon value s
  | .rdLvtLint0 => Sys2Proof.Machine.execRdLvtLint0 s
  | .wrLvtLint0 value => Sys2Proof.Machine.execWrLvtLint0 value s
  | .rdLvtLint1 => Sys2Proof.Machine.execRdLvtLint1 s
  | .wrLvtLint1 value => Sys2Proof.Machine.execWrLvtLint1 value s
  | .rdLvtError => Sys2Proof.Machine.execRdLvtError s
  | .wrLvtError value => Sys2Proof.Machine.execWrLvtError value s
  | .rdTicr => Sys2Proof.Machine.execRdTicr s
  | .wrTicr value => Sys2Proof.Machine.execWrTicr value s
  | .rdTccr => Sys2Proof.Machine.execRdTccr s
  | .wrTccr value => Sys2Proof.Machine.execWrTccr value s
  | .rdTdcr => Sys2Proof.Machine.execRdTdcr s
  | .wrTdcr value => Sys2Proof.Machine.execWrTdcr value s
  | .rdHole off => Sys2Proof.Machine.execRdHole off s
  | .wrHole off value => Sys2Proof.Machine.execWrHole off value s
  | .rdMalformed sz off => Sys2Proof.Machine.execRdMalformed sz off s
  | .wrMalformed sz off value => Sys2Proof.Machine.execWrMalformed sz off value s
  | .reset => Sys2Proof.Machine.execReset s
  | .tick elapsed => Sys2Proof.Machine.execTick elapsed s
  | .tickTsc now => Sys2Proof.Machine.execTickTsc now s
  | .wrTscdl deadline => Sys2Proof.Machine.execWrTscdl deadline s
  | .rdTscdl => Sys2Proof.Machine.execRdTscdl s
  | .pendingVector => Sys2Proof.Machine.execPendingVector s
  | .accept => Sys2Proof.Machine.execAccept s
  | .deliverIpi msg => Sys2Proof.Machine.execDeliverIpi msg s
  | .lvtFireCmci => Sys2Proof.Machine.execLvtFireCmci s
  | .lvtFireThermal => Sys2Proof.Machine.execLvtFireThermal s
  | .lvtFirePerfmon => Sys2Proof.Machine.execLvtFirePerfmon s
  | .lvtFireLint0 => Sys2Proof.Machine.execLvtFireLint0 s
  | .lvtFireLint1 => Sys2Proof.Machine.execLvtFireLint1 s
  | .lvtFireError => Sys2Proof.Machine.execLvtFireError s
  | .portReserved op => Sys2Proof.Machine.execPortReserved op s

end Sys2Proof.Machine
end

