-- ==== Sys2Proof/Machine/Step.lean ====
section
/-! DEFINITION. One step: the next presented operation is performed on the instance it is presented to (R65, R66), or a send that has
begun reads one of its targets (R184). -/

namespace Sys2Proof.Machine

/-- One step. With nothing presented the machine stays as it is: the block acts only when an operation is presented (R19, R210, log 4). -/
def step (s : State) : Host.Outcome State Fault Refusal :=
  match s.queue with
  | [] => .next s
  | p :: rest =>
    match { s with queue := rest }.focus p.cpu with
    | none => .fault (.noSuchInstance p.cpu)
    | some t =>
      match p with
      | .op _ cmd => exec (decode cmd) t.takeLooks
      | .look cpu target => .next ({ s with queue := rest }.look cpu target)

/-- `s` with the command whose bits are `w` presented next, to the instance `self` (log 3). -/
def State.withFetchWord (s : State) (nbits w : Nat) : State :=
  { s with queue := .op s.self.par.apicId (commandOfWord nbits w) :: s.queue }

end Sys2Proof.Machine
end

