-- ==== Sys2Proof/Safety.lean ====
section
/-! DEFINITION. The terms claims are made in: the invariants of R51 to R54 and the rules that go with them, what a safe run is, and
short names for the two ways an operation can end. -/

namespace Sys2Proof.Machine

/-! ## How an operation ends -/

/-- `s` after an operation that changed nothing and answered OK with data `d`. -/
def State.answered (s : State) (d : RData) : State :=
  { s with out := { resp := some { error := none, rdata := d }, ctl := [], ipi := [] } }

/-- `s` after an operation that changed nothing and answered the error `e` with data `d`. -/
def State.failed (s : State) (e : Error) (d : RData) : State :=
  { s with out := { resp := some { error := some e, rdata := d }, ctl := [], ipi := [] } }

/-- `s` after an operation that answered OK without data and left `self` as `l`. -/
def State.updated (s : State) (l : Lapic) : State :=
  { s with self := l, out := { resp := some { error := none, rdata := .none }, ctl := [], ipi := [] } }

/-- ESR after recording the bits `b`, for the parameter `ESR_RECORD` of the instance (R196). -/
def Lapic.esrWith (l : Lapic) (b : Word) : Word := if l.par.esrRecord then l.esr ||| b else l.esr

/-- The one output of an operation that answers OK without data and emits one event of `self`. -/
def State.emitted (s : State) (e : CtlEvent) : Outputs :=
  { resp := some { error := none, rdata := .none }, ctl := [(s.self.par.apicId, e)], ipi := [] }

/-- The mode fields of a written value are legal for the register, so that its write coerces nothing (R147, C5). -/
def ModeFieldsLegal : Reg → Word → Prop
  | .lvtCmci, v | .lvtThermal, v | .lvtPerfmon, v => bits v 8 3 ∈ legalBasic
  | .lvtLint0, v | .lvtLint1, v => bits v 8 3 ∈ legalLint
  | .lvtTimer, v => bits v 17 2 ∈ legalTimerMode
  | .icrLo, v => bits v 8 3 ∈ legalIcr
  | _, _ => True

/-- The reads of R61: `RD` of any offset, well-formed or not, `RD_TSCDL` and `PENDING_VECTOR`. -/
def Instr.IsRead (i : Instr) : Prop :=
  (∃ r, i = rdOf r) ∨ (∃ off, i = .rdHole off) ∨ (∃ sz off, i = .rdMalformed sz off) ∨ i = .rdTscdl ∨ i = .pendingVector

/-! ## Invariants of one instance -/

/-- The bits of a register that can ever read 1: its write mask, and the bits the block itself writes or that are constant (R51). -/
def readableBits : Reg → Word
  | .id => 0xFF000000#32
  | .version => 0xFFFFFFFF#32
  | .ppr => 0x000000FF#32
  | .isr _ | .tmr _ | .irr _ | .tccr => 0xFFFFFFFF#32
  | .esr => 0x00000064#32
  | .lvtLint0 => writeMask .lvtLint0 ||| 0x00004000#32
  | .lvtLint1 => writeMask .lvtLint1 ||| 0x00004000#32
  | r => writeMask r

/-- R51: "reserved bit positions are always zero". -/
def Lapic.ReservedZero (l : Lapic) : Prop := ∀ r, l.readReg r &&& ~~~readableBits r = 0#32

/-- The reset value chosen for SVR has no reserved bit set, as its default (R28). -/
abbrev Params.Legal (p : Params) : Prop := p.svrReset &&& ~~~writeMask .svr = 0#32

/-- Every mode field holds a legal pattern (R122, R145, R147). -/
def Lapic.ModesLegal (l : Lapic) : Prop :=
  (∀ src, bits (l.lvt src) 8 3 ∈ legalModes src) ∧ bits l.lvtTimer 17 2 ∈ legalTimerMode ∧ bits l.icrLo 8 3 ∈ legalIcr

/-- R47 and R52: the counts are within their bounds. -/
abbrev Lapic.CountsBounded (l : Lapic) : Prop := l.tccr ≤ l.ticr ∧ l.presc < l.divideValue

/-- R135, R166 and R167: the deadline is 0 outside TscDeadline mode and the count is 0 in it. -/
abbrev Lapic.OneTimerArmed (l : Lapic) : Prop :=
  (l.mode ≠ .tscDeadline → l.tscdl = 0#64) ∧ (l.mode = .tscDeadline → l.tccr = 0#32)

/-- R53: vectors 0 to 15 never appear in IRR, ISR or TMR. -/
def Lapic.NoLowVector (l : Lapic) : Prop :=
  ∀ v : Vec, v.toNat < 16 → Bitmap.has l.irr v = false ∧ Bitmap.has l.isr v = false ∧ Bitmap.has l.tmr v = false

/-- R203: ISR holds at most one vector of a class. -/
def Lapic.OneInServicePerClass (l : Lapic) : Prop :=
  ∀ v w : Vec, Bitmap.has l.isr v = true → Bitmap.has l.isr w = true → cls v = cls w → v = w

/-! ## Invariants of the system -/

/-- A property of every instance of the system. -/
def State.Every (P : Lapic → Prop) (s : State) : Prop := ∀ l ∈ s.vcpus, P l

/-- R9: the identifiers of the instances are pairwise distinct. -/
abbrev State.DistinctIds (s : State) : Prop := (s.vcpus.map (·.par.apicId)).Nodup

/-- Every operation presented names an instance of the system. -/
abbrev State.WellAddressed (s : State) : Prop := ∀ p ∈ s.queue, p.cpu ∈ s.vcpus.map (·.par.apicId)

/-- A safe run of `k` steps: it ends in a state, not in a fault or a refusal (R197). -/
def SafeRun (k : Nat) (s : State) : Prop := ∃ t, Sys2Proof.core.run k s = .next t

end Sys2Proof.Machine
end

