-- ==== Sys2Proof/Certificates/Slice0/Obligations.lean ====
section
/-! DEFINITION. The statements for the provers, one Prop each, in the order of OBLIGATIONS.json. A docstring gives the rules a
statement formalises and, where a clause is the model's choice, the log entry. -/

open Sys2Proof Sys2Proof.Machine

/-- A step performs the decoded operation on the instance it is presented to, or lets a send that has begun read one target. Tier 1; derived; 20_memory.md section 4, 10_state.md section 1, 44_icr_ipi.md section 2. -/
def Obligations.StepPerformsThePresentedOperation : Prop :=
  (∀ s : State, s.queue = [] → step s = .next s) ∧
  (∀ (s : State) (cpu : ApicId) (cmd : Command) (rest : List Presented), s.DistinctIds → s.queue = .op cpu cmd :: rest →
    let now : State := { s with
      queue := rest
      seen := s.looks.filter fun k => k.sender = cpu
      looks := s.looks.filter fun k => k.sender ≠ cpu }
    (cpu = s.self.par.apicId → step s = exec (decode cmd) now) ∧
    (∀ p ∈ s.peers, p.par.apicId = cpu → step s = exec (decode cmd) { now with
      self := p
      peers := s.peers.map fun q => if q.par.apicId = cpu then s.self else q }) ∧
    (cpu ∉ s.vcpus.map (·.par.apicId) → step s = .fault (.noSuchInstance cpu))) ∧
  ∀ (s : State) (cpu target : ApicId) (rest : List Presented), s.DistinctIds → s.queue = .look cpu target :: rest →
    (cpu ∉ s.vcpus.map (·.par.apicId) → step s = .fault (.noSuchInstance cpu)) ∧
    (cpu ∈ s.vcpus.map (·.par.apicId) →
      (∀ t ∈ s.vcpus, t.par.apicId = target → step s = .next { s with
        queue := rest
        looks := s.looks ++ [{ sender := cpu, target := target, ldr := t.ldr, dfr := t.dfr }] }) ∧
      (target ∉ s.vcpus.map (·.par.apicId) → step s = .next { s with queue := rest }))

/-- Command words printed in the spec decode to the operations they stand for. Tier 1; derived; 95_test_vectors.md section 3, 95_test_vectors.md section 2.1. -/
def Obligations.DecodeReadsTheSpecsOwnWords : Prop :=
  decode (.mmio 0xA3E0#16 0x0000000B#128) = .wrTdcr 0x0000000B#32 ∧ decode (.mmio 0x2390#16 0#128) = .rdTccr ∧
  decode (.mmio 0x2220#16 0#128) = .rdIrr2 ∧ decode (.mmio 0xA300#16 0x000C0030#128) = .wrIcrLo 0x000C0030#32 ∧
  decode (.side 0x02#8 0x0000000000000004#64) = .tick 4#64 ∧ decode (.side 0x08#8 0x0200000061#64) = .deliverIpi 0x0200000061#40 ∧
  decode (.side 0x13#8 0#64) = .lvtFireLint0 ∧ decode (.mmio 0x9080#16 0x0010#128) = .wrMalformed 1#3 0x080#12 0x0010#128 ∧
  decode (.mmio 0x2090#16 0#128) = .rdHole 0x090#12 ∧ decode (.side 0x20#8 0#64) = .portReserved 0x20#8

/-- Decoding the encoding of a well-formed operation gives it back. Tier 3; derived; 30_encoding.md section 2, 30_encoding.md section 3. -/
def Obligations.DecodeInvertsEncode : Prop :=
  ∀ i : Instr, i.wellFormed = true → decode (encode i) = i

/-- Every command decodes to a well-formed operation whose first word is the command's own. Tier 2; derived; 30_encoding.md section 3, 30_encoding.md section 5. -/
def Obligations.EveryCommandDecodesAndKeepsItsFirstWord : Prop :=
  ∀ c : Command, (decode c).wellFormed = true ∧
    match c, encode (decode c) with
    | .mmio h _, .mmio h' _ => h' = h
    | .side op _, .side op' _ => op' = op
    | _, _ => False

/-- The 45 registers stand at the spec's offsets, each selected by its whole offset; every other aligned offset is a hole. Tier 2; stated; R79. -/
def Obligations.OffsetSelectsItsRegisterExactly : Prop :=
  let table : List (Reg × BitVec 12) := [
    (Reg.id, 0x020#12), (.version, 0x030#12), (.tpr, 0x080#12), (.ppr, 0x0A0#12), (.eoi, 0x0B0#12), (.ldr, 0x0D0#12),
    (.dfr, 0x0E0#12), (.svr, 0x0F0#12), (.isr 0, 0x100#12), (.isr 1, 0x110#12), (.isr 2, 0x120#12), (.isr 3, 0x130#12),
    (.isr 4, 0x140#12), (.isr 5, 0x150#12), (.isr 6, 0x160#12), (.isr 7, 0x170#12), (.tmr 0, 0x180#12), (.tmr 1, 0x190#12),
    (.tmr 2, 0x1A0#12), (.tmr 3, 0x1B0#12), (.tmr 4, 0x1C0#12), (.tmr 5, 0x1D0#12), (.tmr 6, 0x1E0#12), (.tmr 7, 0x1F0#12),
    (.irr 0, 0x200#12), (.irr 1, 0x210#12), (.irr 2, 0x220#12), (.irr 3, 0x230#12), (.irr 4, 0x240#12), (.irr 5, 0x250#12),
    (.irr 6, 0x260#12), (.irr 7, 0x270#12), (.esr, 0x280#12), (.lvtCmci, 0x2F0#12), (.icrLo, 0x300#12), (.icrHi, 0x310#12),
    (.lvtTimer, 0x320#12), (.lvtThermal, 0x330#12), (.lvtPerfmon, 0x340#12), (.lvtLint0, 0x350#12), (.lvtLint1, 0x360#12),
    (.lvtError, 0x370#12), (.ticr, 0x380#12), (.tccr, 0x390#12), (.tdcr, 0x3E0#12)]
  (∀ p ∈ table, regOffset p.1 = p.2) ∧ (∀ r : Reg, r ∈ table.map (·.1)) ∧
  (∀ (off : BitVec 12) (r : Reg), regAt off = some r ↔ regOffset r = off) ∧
  (∀ r : Reg, bits (regOffset r) 0 4 = 0#4) ∧
  (∀ (r : Reg) (v : Word), decode (rdCommand (regOffset r)) = rdOf r ∧ decode (wrCommand (regOffset r) v) = wrOf r v) ∧
  ∀ (off : BitVec 12) (v : Word), bits off 0 2 = 0#2 → (∀ r, regOffset r ≠ off) →
    decode (rdCommand off) = .rdHole off ∧ decode (wrCommand off v) = .wrHole off v

/-- RD_ID returns APIC_ID << 24, and no operation, RESET included, changes what it returns. Tier 2; stated; R92. -/
def Obligations.IdentifierReadNeverChanges : Prop :=
  ∀ s : State, exec .rdId s = .next (s.answered (.word (s.self.par.apicId ++ 0#24))) ∧
    ∀ (i : Instr) (t : State), exec i s = .next t →
      exec .rdId t = .next (t.answered (.word (s.self.par.apicId ++ 0#24)))

/-- Each read of a stored or constant register returns it, answers OK and changes nothing. Tier 1; derived; 40_register_bank.md sections 2, 4, 5 and 6, 10_state.md section 2. -/
def Obligations.VersionEoiAndStoredRegisterReads : Prop :=
  ∀ s : State,
    exec .rdVersion s = .next (s.answered (.word s.self.par.version)) ∧ exec .rdTpr s = .next (s.answered (.word s.self.tpr)) ∧
    exec .rdEoi s = .next (s.answered (.word 0x00000000#32)) ∧ exec .rdLdr s = .next (s.answered (.word s.self.ldr)) ∧
    exec .rdDfr s = .next (s.answered (.word s.self.dfr)) ∧ exec .rdSvr s = .next (s.answered (.word s.self.svr)) ∧
    exec .rdEsr s = .next (s.answered (.word s.self.esr)) ∧ exec .rdLvtCmci s = .next (s.answered (.word s.self.lvtCmci)) ∧
    exec .rdIcrLo s = .next (s.answered (.word s.self.icrLo)) ∧ exec .rdIcrHi s = .next (s.answered (.word s.self.icrHi)) ∧
    exec .rdLvtTimer s = .next (s.answered (.word s.self.lvtTimer)) ∧
    exec .rdLvtThermal s = .next (s.answered (.word s.self.lvtThermal)) ∧
    exec .rdLvtPerfmon s = .next (s.answered (.word s.self.lvtPerfmon)) ∧
    exec .rdLvtLint0 s = .next (s.answered (.word s.self.lvtLint0)) ∧
    exec .rdLvtLint1 s = .next (s.answered (.word s.self.lvtLint1)) ∧
    exec .rdLvtError s = .next (s.answered (.word s.self.lvtError)) ∧ exec .rdTicr s = .next (s.answered (.word s.self.ticr)) ∧
    exec .rdTccr s = .next (s.answered (.word s.self.tccr)) ∧ exec .rdTdcr s = .next (s.answered (.word s.self.tdcr))

/-- RD_ISR0-7, RD_TMR0-7 and RD_IRR0-7 return bits 32 k + i of their bitmap. Tier 2; derived; 40_register_bank.md section 3, 30_encoding.md section 4. -/
def Obligations.BankReadsReturnTheirThirtyTwoVectors : Prop :=
  ∀ (s : State) (k : Fin 8),
    (∃ w : Word, exec (rdOf (.isr k)) s = .next (s.answered (.word w)) ∧ ∀ i < 32, w.getLsbD i = s.self.isr.getLsbD (32 * k + i)) ∧
    (∃ w : Word, exec (rdOf (.tmr k)) s = .next (s.answered (.word w)) ∧ ∀ i < 32, w.getLsbD i = s.self.tmr.getLsbD (32 * k + i)) ∧
    (∃ w : Word, exec (rdOf (.irr k)) s = .next (s.answered (.word w)) ∧ ∀ i < 32, w.getLsbD i = s.self.irr.getLsbD (32 * k + i))

/-- RD_PPR returns TPR unless a higher class is in service, and then that class with a zero low nibble. Tier 2; derived; 43_delivery.md section 3, 40_register_bank.md section 2. -/
def Obligations.PprReadIsMaximumOfTaskAndServiceClass : Prop :=
  ∀ s : State,
    (s.self.isr = 0#256 → exec .rdPpr s = .next (s.answered (.word ((bits s.self.tpr 0 8).setWidth 32)))) ∧
    ∀ v : Vec, Bitmap.has s.self.isr v = true → (∀ w, Bitmap.has s.self.isr w = true → w ≤ v) →
      exec .rdPpr s = .next (s.answered (.word (
        if cls v ≤ bits s.self.tpr 4 4 then (bits s.self.tpr 0 8).setWidth 32 else ((cls v ++ 0#4 : BitVec 8).setWidth 32))))

/-- No read has a side effect. Tier 2; derived; 20_memory.md section 2. -/
def Obligations.ReadsChangeNoState : Prop :=
  ∀ (i : Instr) (s : State), Instr.IsRead i → ∃ t, exec i s = .next t ∧ t = { s with out := t.out }

/-- A write of a read-only register is wholly dropped and answers OK. Tier 1; stated; R93, R95, R99, R111, R113, R115, R136. -/
def Obligations.WritesOfReadOnlyRegistersAreDropped : Prop :=
  ∀ (s : State) (v : Word), ∀ r ∈ [Reg.id, .version, .ppr, .esr, .tccr] ++ bankRegs .isr ++ bankRegs .tmr ++ bankRegs .irr,
    exec (wrOf r v) s = .next (s.answered .none)

/-- WR_TPR, WR_LDR, WR_DFR, WR_SVR and WR_ICR_HI store the masked value and change nothing else. Tier 1; stated; R97, R105, R121. -/
def Obligations.PlainMaskedStores : Prop :=
  ∀ (s : State) (v : Word),
    exec (.wrTpr v) s = .next (s.updated { s.self with tpr := v &&& 0x000000FF#32 }) ∧
    exec (.wrLdr v) s = .next (s.updated { s.self with ldr := v &&& 0xFF000000#32 }) ∧
    exec (.wrDfr v) s = .next (s.updated { s.self with dfr := v &&& 0xF0000000#32 }) ∧
    exec (.wrSvr v) s = .next (s.updated { s.self with svr := v &&& 0x000001FF#32 }) ∧
    exec (.wrIcrHi v) s = .next (s.updated { s.self with icrHi := v &&& 0xFF000000#32 })

/-- After a write of any register a read returns the writable bits of the value and the preserved other bits. Tier 2; derived; 40_register_bank.md section 1, 95_test_vectors.md section 1.2, 90_conflicts.md C5. -/
def Obligations.WriteThenReadReturnsMaskedValue : Prop :=
  ∀ (r : Reg) (v : Word) (s : State), s.self.ReservedZero → ModeFieldsLegal r v →
    ∃ (old : Word) (t : State), exec (rdOf r) s = .next (s.answered (.word old)) ∧ exec (wrOf r v) s = .next t ∧
      exec (rdOf r) t = .next (t.answered (.word ((v &&& writeMask r) ||| (old &&& ~~~writeMask r))))

/-- A hole reads HOLE_READ_VALUE and ignores writes, with status OK. Tier 1; stated; R138, R139. -/
def Obligations.HolesReadTheConstantAndDropWrites : Prop :=
  (∀ (s : State) (off : BitVec 12) (v : Word),
    exec (.rdHole off) s = .next (s.answered (.word s.self.par.holeRead)) ∧ exec (.wrHole off v) s = .next (s.answered .none) ∧
    ∀ t, exec (.wrHole off v) s = .next t → exec (.rdHole off) t = .next (t.answered (.word s.self.par.holeRead))) ∧
  (∀ off ∈ [0x024#12, 0x028#12, 0x02C#12, 0x000#12, 0x010#12, 0x090#12, 0x0C0#12], decode (rdCommand off) = .rdHole off) ∧
  (∀ off : BitVec 12, bits off 0 4 = 0#4 →
    (0x290#12 ≤ off ∧ off ≤ 0x2E0#12 ∨ 0x3A0#12 ≤ off ∧ off ≤ 0x3D0#12 ∨ 0x3F0#12 ≤ off) → decode (rdCommand off) = .rdHole off)

/-- A wrong size or alignment answers MalformedAccess and changes nothing, at every offset. Tier 2; stated; R140, R141. -/
def Obligations.MalformedAccessesAnswerAnErrorAndChangeNothing : Prop :=
  (∀ (h : BitVec 16) (d : BitVec 128), (bits h 12 3 ≠ 2#3 ∨ bits h 0 2 ≠ 0#2) →
    (h.getLsbD 15 = false → decode (.mmio h d) = .rdMalformed (bits h 12 3) (bits h 0 12)) ∧
    (h.getLsbD 15 = true → ∃ v, decode (.mmio h d) = .wrMalformed (bits h 12 3) (bits h 0 12) v)) ∧
  (∀ (s : State) (sz : BitVec 3) (off : BitVec 12) (v : BitVec 128),
    exec (.rdMalformed sz off) s = .next (s.failed (.malformedAccess off sz) (.word s.self.par.malformedRead)) ∧
    exec (.wrMalformed sz off v) s = .next (s.failed (.malformedAccess off sz) .none)) ∧
  ∀ (sz : BitVec 3) (off : BitVec 12) (d : RData), ({ error := some (.malformedAccess off sz), rdata := d } : Response).status = 1#3

/-- A port id that is not listed answers MalformedAccess and changes nothing. Tier 2; stated; R142. -/
def Obligations.ReservedPortIdsAreRefused : Prop :=
  (∀ (op : BitVec 8) (p : BitVec 64), ¬(0x01#8 ≤ op ∧ op ≤ 0x08#8) → ¬(0x10#8 ≤ op ∧ op ≤ 0x15#8) →
    decode (.side op p) = .portReserved op) ∧
  ∀ (s : State) (op : BitVec 8), exec (.portReserved op) s = .next (s.failed (.malformedPort op) .none) ∧
    ({ error := some (.malformedPort op), rdata := .none } : Response).status = 1#3

/-- WR_LVT_CMCI, WR_LVT_THERMAL and WR_LVT_PERFMON store the masked value with a legal delivery mode. Tier 2; stated; R117, R125, R127. -/
def Obligations.LvtThermalFamilyWritesMaskAndCoerce : Prop :=
  ∀ (s : State) (v : Word),
    let good (old w : Word) : Prop :=
      (bits w 8 3, bits v 8 3) ∈ [(0#3, 0#3), (0#3, 1#3), (2#3, 2#3), (2#3, 3#3), (4#3, 4#3), (4#3, 5#3), (4#3, 6#3), (4#3, 7#3)] ∧
      ∀ i < 32, (i < 8 ∨ 10 < i) → w.getLsbD i = if (0x000107FF#32).getLsbD i then v.getLsbD i else old.getLsbD i
    (∃ w, good s.self.lvtCmci w ∧ exec (.wrLvtCmci v) s = .next (s.updated { s.self with lvtCmci := w })) ∧
    (∃ w, good s.self.lvtThermal w ∧ exec (.wrLvtThermal v) s = .next (s.updated { s.self with lvtThermal := w })) ∧
    (∃ w, good s.self.lvtPerfmon w ∧ exec (.wrLvtPerfmon v) s = .next (s.updated { s.self with lvtPerfmon := w }))

/-- WR_LVT_LINT0 and WR_LVT_LINT1 store the masked value with a legal mode and preserve remote_irr. Tier 2; stated; R129, R131. -/
def Obligations.LintWritesKeepRemoteIrr : Prop :=
  ∀ (s : State) (v : Word),
    let good (old w : Word) : Prop :=
      (bits w 8 3, bits v 8 3) ∈ [(0#3, 0#3), (0#3, 1#3), (2#3, 2#3), (2#3, 3#3), (4#3, 4#3), (5#3, 5#3), (5#3, 6#3), (7#3, 7#3)] ∧
      w.getLsbD 14 = old.getLsbD 14 ∧
      ∀ i < 32, (i < 8 ∨ 10 < i) → w.getLsbD i = if (0x0001A7FF#32).getLsbD i then v.getLsbD i else old.getLsbD i
    (∃ w, good s.self.lvtLint0 w ∧ exec (.wrLvtLint0 v) s = .next (s.updated { s.self with lvtLint0 := w })) ∧
    (∃ w, good s.self.lvtLint1 w ∧ exec (.wrLvtLint1 v) s = .next (s.updated { s.self with lvtLint1 := w }))

/-- WR_LVT_ERROR stores vector and mask and drops every other bit, bits 10:8 among them. Tier 2; derived; 40_register_bank.md section 5. -/
def Obligations.LvtErrorWriteDropsDeliveryMode : Prop :=
  ∀ (s : State) (v : Word), ∃ w, exec (.wrLvtError v) s = .next (s.updated { s.self with lvtError := w }) ∧
    ∀ i < 32, w.getLsbD i = if (0x000100FF#32).getLsbD i then v.getLsbD i else s.self.lvtError.getLsbD i

/-- Coerce(legal, p) is the greatest member of the legal set not above p. Tier 2; derived; 41_lvt.md section 1. -/
def Obligations.CoercionIsGreatestLegalValueNotAbove : Prop :=
  ∀ (w : Nat) (legal : List (BitVec w)) (p : BitVec w), 0#w ∈ legal →
    coerce legal p ∈ legal ∧ coerce legal p ≤ p ∧ (∀ q ∈ legal, q ≤ p → q ≤ coerce legal p) ∧ (p ∈ legal → coerce legal p = p)

/-- RESET gives every register of the instance its reset value, emits nothing and leaves the other instances alone. Tier 1; derived; 10_state.md section 5, 40_register_bank.md section 8. -/
def Obligations.ResetRestoresEveryRegister : Prop :=
  ∀ s : State, exec .reset s = .next (s.updated {
    par := s.self.par, tpr := 0#32, ldr := 0#32, dfr := 0xF0000000#32, svr := s.self.par.svrReset,
    isr := 0#256, tmr := 0#256, irr := 0#256, esr := 0#32,
    lvtCmci := 0x00010000#32, lvtTimer := 0x00010000#32, lvtThermal := 0x00010000#32, lvtPerfmon := 0x00010000#32,
    lvtLint0 := 0x00010000#32, lvtLint1 := 0x00010000#32, lvtError := 0x00010000#32,
    icrLo := 0#32, icrHi := 0#32, ticr := 0#32, tccr := 0#32, tdcr := 0#32, tscdl := 0#64, presc := 0 })

/-- After reset the timer is disarmed in OneShot mode, every source is masked, nothing is pending and ACCEPT is spurious 0xFF. Tier 1; stated; R212. -/
def Obligations.ResetStateIsArmedForNothing : Prop :=
  let l := State.reset.self
  l.timerState = .disarmed ∧ l.mode = .oneShot ∧ l.divideValue = 2 ∧ (∀ src, (l.lvt src).getLsbD 16 = true) ∧
  l.irr = 0#256 ∧ l.isr = 0#256 ∧ l.tmr = 0#256 ∧ l.intrPending = false ∧
  exec .accept State.reset = .next (State.reset.answered (.vec 0x0FF#9)) ∧
  l.tpr = 0#32 ∧ l.svr = 0x000001FF#32 ∧ l.svr.getLsbD 8 = true ∧ l.esr = 0#32 ∧ l.icrLo.getLsbD 12 = false ∧
  ∀ v : Vec, 16 ≤ v.toNat → ∃ t, exec (.deliverIpi (v.setWidth 40)) State.reset = .next t ∧ Bitmap.has t.self.irr v = true

/-- Encoding the decoded view of an LVT register gives the register back, for every value it can hold. Tier 2; derived; 41_lvt.md section 1. -/
def Obligations.LvtEncodeInvertsDecode : Prop :=
  ∀ (src : LvtSource) (r : Reg), (src, r) ∈ [(LvtSource.timer, Reg.lvtTimer), (.thermal, .lvtThermal), (.perfmon, .lvtPerfmon),
      (.lint0, .lvtLint0), (.lint1, .lvtLint1), (.error, .lvtError), (.cmci, .lvtCmci)] →
    ∀ raw : Word, raw &&& ~~~readableBits r = 0#32 → bits raw 8 3 ∈ legalModes src → bits raw 17 2 ∈ legalTimerMode →
      encodeLvt (decodeLvt src raw) = raw

/-- LVT_FIRE_*: a masked event is dropped, a Fixed one posted, any other leaves as one ctl_event. Tier 2; stated; R150, R151, R152, R153. -/
def Obligations.LocalEventIsDroppedPostedOrForwarded : Prop :=
  ∀ (s : State) (src : LvtSource) (i : Instr), (src, i) ∈ [(LvtSource.cmci, Instr.lvtFireCmci), (.thermal, .lvtFireThermal),
      (.perfmon, .lvtFirePerfmon), (.lint0, .lvtFireLint0), (.lint1, .lvtFireLint1), (.error, .lvtFireError)] →
    let raw := s.self.lvt src
    let v := bits raw 0 8
    let level : Bool := (src = .lint0 ∨ src = .lint1) && raw.getLsbD 15
    bits raw 8 3 ∈ legalModes src →
      (raw.getLsbD 16 = true → exec i s = .next (s.answered .none)) ∧
      (raw.getLsbD 16 = false → bits raw 8 3 = 0#3 → 16 ≤ v.toNat → Bitmap.has s.self.irr v = false →
        exec i s = .next (s.updated { s.self with
          irr := Bitmap.set s.self.irr v
          tmr := if level then Bitmap.set s.self.tmr v else Bitmap.clear s.self.tmr v
          lvtLint0 := if src = .lint0 ∧ level then raw ||| 0x00004000#32 else s.self.lvtLint0
          lvtLint1 := if src = .lint1 ∧ level then raw ||| 0x00004000#32 else s.self.lvtLint1 })) ∧
      (raw.getLsbD 16 = false → bits raw 8 3 = 0#3 → 16 ≤ v.toNat → Bitmap.has s.self.irr v = true →
        exec i s = .next (s.answered .none)) ∧
      (raw.getLsbD 16 = false → bits raw 8 3 = 0#3 → v.toNat < 16 →
        exec i s = .next (({ s with self := { s.self with esr := s.self.esrWith 0x00000040#32 } } : State).failed (.illegalVector v) .none)) ∧
      (raw.getLsbD 16 = false → ∀ k, (bits raw 8 3, k) ∈ [(2#3, CtlKind.smi), (4#3, .nmi), (5#3, .init), (7#3, .extInt)] →
        exec i s = .next { s with out := s.emitted (
          { kind := k, vector := v, level := .assert, trigger := if level then .level else .edge, origin := .lvt src }) })

/-- The divide value is 2 << d for the selected code d, 1 for d = 7, and SET_DIVIDE selects it. Tier 1; stated; R84. -/
def Obligations.DivideValueFollowsItsCode : Prop :=
  (∀ (l : Lapic) (d : BitVec 3), d = bits l.tdcr 3 1 ++ bits l.tdcr 0 2 → l.divideValue = if d = 7#3 then 1 else 2 <<< d.toNat) ∧
  (∀ (s : State) (v : Word), ∃ t, exec (.wrTdcr v) s = .next t ∧ t.self.tdcr = v &&& 0x0000000B#32) ∧
  ∀ n ∈ [1, 2, 4, 8, 16, 32, 64, 128], ∃ e, pseudoSetDivide n = some [.wrTdcr e] ∧
    ∀ s : State, ∃ t, exec (.wrTdcr e) s = .next t ∧ t.self.divideValue = n

/-- WR_TICR loads and re-arms, WR_TDCR rescales later ticks only, WR_TSCDL arms in TscDeadline mode only. Tier 1; stated; R160, R161, R166. -/
def Obligations.TimerRegisterWrites : Prop :=
  ∀ (s : State) (v : Word) (d : BitVec 64),
    (s.self.mode ≠ .tscDeadline → exec (.wrTicr v) s = .next (s.updated { s.self with ticr := v, tccr := v, presc := 0 })) ∧
    (s.self.mode = .tscDeadline → exec (.wrTicr v) s = .next (s.updated { s.self with ticr := v, presc := 0 })) ∧
    exec (.wrTdcr v) s = .next (s.updated { s.self with tdcr := v &&& 0x0000000B#32, presc := 0 }) ∧
    (s.self.mode = .tscDeadline → exec (.wrTscdl d) s = .next (s.updated { s.self with tscdl := d })) ∧
    (s.self.mode ≠ .tscDeadline → exec (.wrTscdl d) s = .next (s.answered .none))

/-- WR_LVT_TIMER stores vector, mask and a legal mode, and disarms when and only when the mode field changes. Tier 2; stated; R123, R165. -/
def Obligations.LvtTimerWriteDisarmsExactlyOnModeChange : Prop :=
  ∀ (s : State) (v : Word), ∃ w : Word,
    (bits w 17 2, bits v 17 2) ∈ [(0#2, 0#2), (1#2, 1#2), (2#2, 2#2), (2#2, 3#2)] ∧
    (∀ i < 32, i ≠ 17 → i ≠ 18 → w.getLsbD i = if (0x000700FF#32).getLsbD i then v.getLsbD i else s.self.lvtTimer.getLsbD i) ∧
    (bits w 17 2 = bits s.self.lvtTimer 17 2 → exec (.wrLvtTimer v) s = .next (s.updated { s.self with lvtTimer := w })) ∧
    (bits w 17 2 ≠ bits s.self.lvtTimer 17 2 → exec (.wrLvtTimer v) s = .next (s.updated
      { s.self with lvtTimer := w, tccr := 0#32, presc := 0, tscdl := 0#64 }))

/-- TICK n leaves what n single ticks leave, on every state. Tier 2; derived; 42_timer.md section 3. -/
def Obligations.TickIsThatManySingleTicks : Prop :=
  ∀ (s : State) (n : BitVec 64), exec (.tick n) s = .next (s.updated (s.self.tickTimes n.toNat))

/-- TICK 1: one input tick counts the prescaler, decrements the count, or expires and reloads. Tier 2; derived; 42_timer.md section 3, 42_timer.md section 5. -/
def Obligations.OneTickCountsOrExpires : Prop :=
  ∀ s : State, let l := s.self
    (l.mode = .tscDeadline ∨ l.tccr = 0#32 → exec (.tick 1#64) s = .next (s.answered .none)) ∧
    (l.mode ≠ .tscDeadline → l.tccr ≠ 0#32 → l.presc + 1 < l.divideValue →
      exec (.tick 1#64) s = .next (s.updated { l with presc := l.presc + 1 })) ∧
    (l.mode ≠ .tscDeadline → l.presc + 1 = l.divideValue → 1#32 < l.tccr →
      exec (.tick 1#64) s = .next (s.updated { l with presc := 0, tccr := l.tccr - 1#32 })) ∧
    (l.mode = .oneShot → l.presc + 1 = l.divideValue → l.tccr = 1#32 →
      exec (.tick 1#64) s = .next (s.updated { l.expire with presc := 0, tccr := 0#32 })) ∧
    (l.mode = .periodic → l.presc + 1 = l.divideValue → l.tccr = 1#32 →
      exec (.tick 1#64) s = .next (s.updated { l.expire with presc := 0, tccr := l.ticr }))

/-- TICK n in closed form, within the bounds of the counts. Tier 2; derived; 42_timer.md section 3. -/
def Obligations.TickClosedForm : Prop :=
  ∀ (s : State) (n : BitVec 64), let l := s.self
    let d := l.divideValue
    let steps := (l.presc + n.toNat) / d
    let r := (l.presc + n.toNat) % d
    let k := steps - l.tccr.toNat
    l.CountsBounded →
      (l.mode = .tscDeadline ∨ l.tccr = 0#32 → exec (.tick n) s = .next (s.answered .none)) ∧
      (l.mode ≠ .tscDeadline → l.tccr ≠ 0#32 → steps < l.tccr.toNat →
        exec (.tick n) s = .next (s.updated { l with tccr := l.tccr - BitVec.ofNat 32 steps, presc := r })) ∧
      (l.mode = .oneShot → l.tccr ≠ 0#32 → l.tccr.toNat ≤ steps →
        exec (.tick n) s = .next (s.updated { l.expire with tccr := 0#32, presc := 0 })) ∧
      (l.mode = .periodic → l.tccr ≠ 0#32 → l.tccr.toNat ≤ steps →
        exec (.tick n) s = .next (s.updated { l.expire with tccr := l.ticr - BitVec.ofNat 32 (k % l.ticr.toNat), presc := r }))

/-- TICK a then TICK b leaves what TICK (a + b) leaves. Tier 2; derived; 42_timer.md section 3, 92_eei_decisions.md D35. -/
def Obligations.TicksAddUp : Prop :=
  ∀ (s t : State) (a b : BitVec 64), a.toNat + b.toNat < 2 ^ 64 → exec (.tick a) s = .next t →
    exec (.tick b) t = exec (.tick (a + b)) s

/-- TICK_TSC expires an armed deadline that has been reached and clears it, and otherwise does nothing; RD_TSCDL reads it. Tier 1; derived; 42_timer.md section 4. -/
def Obligations.DeadlineExpiresOnceAtOrAfterIt : Prop :=
  ∀ (s : State) (now : BitVec 64),
    (s.self.mode = .tscDeadline → s.self.tscdl ≠ 0#64 → s.self.tscdl ≤ now →
      exec (.tickTsc now) s = .next (s.updated { s.self.expire with tscdl := 0#64 })) ∧
    (s.self.mode ≠ .tscDeadline ∨ s.self.tscdl = 0#64 ∨ now < s.self.tscdl →
      exec (.tickTsc now) s = .next (s.answered .none)) ∧
    exec .rdTscdl s = .next (s.answered (.dword s.self.tscdl))

/-- The timer is Running or Disarmed after each event as the state machine's table says. Tier 2; derived; 42_timer.md section 5, 10_state.md section 3. -/
def Obligations.TimerStateAfterEachEvent : Prop :=
  ∀ (s t : State) (v : Word) (d n : BitVec 64), let was := s.self.timerState
    let now := t.self.timerState
    (s.self.mode ≠ .tscDeadline → exec (.wrTicr v) s = .next t → now = if v = 0#32 then .disarmed else .running) ∧
    (exec (.wrTdcr v) s = .next t → now = was) ∧
    (exec (.wrLvtTimer v) s = .next t → bits t.self.lvtTimer 17 2 = bits s.self.lvtTimer 17 2 → now = was) ∧
    (exec (.wrLvtTimer v) s = .next t → bits t.self.lvtTimer 17 2 ≠ bits s.self.lvtTimer 17 2 → now = .disarmed) ∧
    (exec .reset s = .next t → now = .disarmed) ∧
    (s.self.mode = .tscDeadline → exec (.wrTicr v) s = .next t ∨ exec (.tick n) s = .next t → now = was) ∧
    (s.self.mode = .tscDeadline → exec (.wrTscdl d) s = .next t → now = if d = 0#64 then .disarmed else .running) ∧
    (s.self.mode = .tscDeadline → exec (.tickTsc n) s = .next t → now = if s.self.tscdl ≤ n then .disarmed else was) ∧
    (s.self.mode ≠ .tscDeadline → exec (.wrTscdl d) s = .next t ∨ exec (.tickTsc n) s = .next t → now = was) ∧
    (was = .disarmed → exec (.tick n) s = .next t → now = .disarmed) ∧
    (s.self.mode = .periodic → s.self.ticr ≠ 0#32 → was = .running → exec (.tick n) s = .next t → now = .running) ∧
    (s.self.mode = .oneShot → was = .running → s.self.CountsBounded → exec (.tick n) s = .next t →
      now = if s.self.tccr.toNat ≤ (s.self.presc + n.toNat) / s.self.divideValue then .disarmed else .running) ∧
    (s.self.mode = .oneShot → was = .running → s.self.CountsBounded → exec (.tick 1#64) s = .next t →
      now = if s.self.presc + 1 = s.self.divideValue ∧ s.self.tccr = 1#32 then .disarmed else .running)

/-- post rejects a vector below 16, absorbs a pending one and otherwise sets IRR and records the trigger mode; an expiry posts unless masked. Tier 1; derived; 43_delivery.md section 2, 42_timer.md section 2. -/
def Obligations.PostAndExpirySetRejectOrAbsorb : Prop :=
  (∀ (l : Lapic) (v : Vec) (tm : Trigger),
    (v.toNat < 16 → l.post v tm = (.illegalVector, { l with esr := l.esrWith 0x00000040#32 })) ∧
    (16 ≤ v.toNat → Bitmap.has l.irr v = true → l.post v tm = (.alreadyPending, l)) ∧
    (16 ≤ v.toNat → Bitmap.has l.irr v = false → l.post v tm = (.posted,
      { l with irr := Bitmap.set l.irr v, tmr := if tm = .level then Bitmap.set l.tmr v else Bitmap.clear l.tmr v }))) ∧
  ∀ l : Lapic, let v := bits l.lvtTimer 0 8
    (l.lvtTimer.getLsbD 16 = true → l.expire = l) ∧
    (l.lvtTimer.getLsbD 16 = false → 16 ≤ v.toNat → Bitmap.has l.irr v = false →
      l.expire = { l with irr := Bitmap.set l.irr v, tmr := Bitmap.clear l.tmr v }) ∧
    (l.lvtTimer.getLsbD 16 = false → 16 ≤ v.toNat → Bitmap.has l.irr v = true → l.expire = l) ∧
    (l.lvtTimer.getLsbD 16 = false → v.toNat < 16 → l.expire = { l with esr := l.esrWith 0x00000040#32 })

/-- Arbitration offers exactly the highest pending vector whose class exceeds those of TPR and of every vector in service. Tier 2; derived; 43_delivery.md section 3, 43_delivery.md section 6. -/
def Obligations.DeliverableIsHighestAboveEveryClass : Prop :=
  ∀ l : Lapic,
    (∀ v : Vec, l.deliverable = some v ↔ Bitmap.has l.irr v = true ∧ (∀ w, Bitmap.has l.irr w = true → w ≤ v) ∧
      bits l.tpr 4 4 < cls v ∧ ∀ w, Bitmap.has l.isr w = true → cls w < cls v) ∧
    (l.intrPending = true ↔ ∃ v, l.deliverable = some v) ∧
    (bits l.tpr 4 4 = 15#4 → l.intrPending = false) ∧
    (bits l.tpr 4 4 = 0#4 → l.isr = 0#256 → l.NoLowVector → ∀ v, Bitmap.has l.irr v = true → l.intrPending = true)

/-- PENDING_VECTOR answers valid and the deliverable vector, or not valid and zero, and changes nothing. Tier 1; derived; 43_delivery.md section 3. -/
def Obligations.PendingVectorReportsArbitration : Prop :=
  ∀ s : State,
    (∀ v, s.self.deliverable = some v → exec .pendingVector s = .next (s.answered (.vec (1#1 ++ v)))) ∧
    (s.self.deliverable = none → exec .pendingVector s = .next (s.answered (.vec 0x000#9)))

/-- ACCEPT moves the deliverable vector from IRR to ISR, or returns SVR[7:0] and changes nothing. Tier 2; stated; R179. -/
def Obligations.AcceptMovesOrReturnsSpurious : Prop :=
  ∀ s : State,
    (∀ v, s.self.deliverable = some v → exec .accept s = .next { s with
      self := { s.self with irr := Bitmap.clear s.self.irr v, isr := Bitmap.set s.self.isr v }
      out := { resp := some { error := none, rdata := .vec (1#1 ++ v) }, ctl := [], ipi := [] } }) ∧
    (s.self.deliverable = none → exec .accept s = .next (s.answered (.vec (0#1 ++ bits s.self.svr 0 8))))

/-- An accepted vector has a class strictly above every vector in service, and is what the next EOI retires. Tier 2; derived; 60_exceptions.md section 5, 43_delivery.md section 4. -/
def Obligations.AcceptedVectorOutranksEveryoneInService : Prop :=
  ∀ (s t : State) (v : Vec), s.self.deliverable = some v → exec .accept s = .next t →
    Bitmap.has t.self.isr v = true ∧ (∀ w, Bitmap.has s.self.isr w = true → cls w < cls v) ∧ cls v ≤ cls t.self.ppr ∧
    ∀ (x : Word) (u : State), exec (.wrEoi x) t = .next u → u.self.isr = s.self.isr

/-- WR_EOI retires the highest in-service vector, whatever the value, and drops remote_irr of the matching level-triggered LINT. Tier 2; stated; R101, R180. -/
def Obligations.EoiRetiresTheHighestInService : Prop :=
  ∀ (s : State) (x : Word),
    (s.self.isr = 0#256 → exec (.wrEoi x) s = .next (s.answered .none)) ∧
    ∀ v : Vec, Bitmap.has s.self.isr v = true → (∀ w, Bitmap.has s.self.isr w = true → w ≤ v) →
      let ack (raw : Word) : Word := if bits raw 0 8 = v ∧ raw.getLsbD 14 = true then raw &&& ~~~0x00004000#32 else raw
      (Bitmap.has s.self.tmr v = false → exec (.wrEoi x) s = .next (s.updated { s.self with isr := Bitmap.clear s.self.isr v })) ∧
      (Bitmap.has s.self.tmr v = true → exec (.wrEoi x) s = .next (s.updated { s.self with
        isr := Bitmap.clear s.self.isr v, lvtLint0 := ack s.self.lvtLint0, lvtLint1 := ack s.self.lvtLint1 }))

/-- A vector enters ISR only by ACCEPT, which clears it from IRR in the same step. Tier 3; stated; R54. -/
def Obligations.ServiceBitsRiseOnlyByAcceptance : Prop :=
  ∀ (i : Instr) (s t : State), exec i s = .next t → t.peers.map (·.isr) = s.peers.map (·.isr) ∧
    ∀ v : Vec, Bitmap.has s.self.isr v = false → Bitmap.has t.self.isr v = true →
      i = .accept ∧ Bitmap.has s.self.irr v = true ∧ Bitmap.has t.self.irr v = false

/-- A pending bit falls only by ACCEPT or RESET, an in-service bit only by the EOI write or RESET. Tier 3; derived; 60_exceptions.md section 3. -/
def Obligations.PendingAndServiceBitsFallOnlyByTheirOwnOperations : Prop :=
  ∀ (i : Instr) (s t : State) (v : Vec), exec i s = .next t →
    (Bitmap.has s.self.irr v = true → Bitmap.has t.self.irr v = false → i = .accept ∨ i = .reset) ∧
    (Bitmap.has s.self.isr v = true → Bitmap.has t.self.isr v = false → (∃ x, i = .wrEoi x) ∨ i = .reset)

/-- A destination resolves by shorthand, by identifier, or by the logical match on LDR and DFR. Tier 2; derived; 44_icr_ipi.md section 2. -/
def Obligations.DestinationResolution : Prop :=
  ∀ (s : State) (icr : IcrValue) (id : ApicId),
    (icr.shorthand = .self → (id ∈ s.resolve icr ↔ id = s.self.par.apicId)) ∧
    (icr.shorthand = .allIncludingSelf → (id ∈ s.resolve icr ↔ ∃ t ∈ s.vcpus, t.par.apicId = id)) ∧
    (icr.shorthand = .allExcludingSelf → (id ∈ s.resolve icr ↔ (∃ t ∈ s.vcpus, t.par.apicId = id) ∧ id ≠ s.self.par.apicId)) ∧
    (icr.shorthand = .none → icr.destMode = .physical →
      (id ∈ s.resolve icr ↔ (∃ t ∈ s.vcpus, t.par.apicId = id) ∧ id = icr.destination)) ∧
    (icr.shorthand = .none → icr.destMode = .logical → s.platform.logical = .flatCluster →
      (id ∈ s.resolve icr ↔ ∃ t ∈ s.vcpus, t.par.apicId = id ∧
        let first := s.seen.find? fun k => k.target = id
        let ldr : Word := (first.map (·.ldr)).getD t.ldr
        let dfr : Word := (first.map (·.dfr)).getD t.dfr
        (bits dfr 28 4 = 0xF#4 ∧ bits ldr 24 8 &&& icr.destination ≠ 0#8 ∨
         bits dfr 28 4 = 0x0#4 ∧ bits ldr 28 4 = bits icr.destination 4 4 ∧
           bits ldr 24 4 &&& bits icr.destination 0 4 ≠ 0#4))) ∧
    (∀ rows, icr.shorthand = .none → icr.destMode = .logical → s.platform.logical = .delegated rows →
      (id ∈ s.resolve icr ↔ (∃ t ∈ s.vcpus, t.par.apicId = id) ∧
        ∃ r ∈ rows, r.sender = s.self.par.apicId ∧ r.dest = icr.destination ∧ id ∈ r.targets))

/-- A send that fails reports the first error of the order, sets its one ESR bit, keeps ICR_LO and touches no other instance. Tier 2; derived; 44_icr_ipi.md section 2, 60_exceptions.md sections 1 and 2. -/
def Obligations.FailedSendRecordsOneErrorAndDeliversNothing : Prop :=
  ∀ (s : State) (v : Word), let w := icrLoStored v
    let stored (esr : Word) : State := { s with self := { s.self with icrLo := w, esr := esr } }
    let icr := assembleIcr s.self.icrHi w
    let conflict := bits w 18 2 ≠ 0#2 ∧ bits s.self.icrHi 24 8 ≠ 0#8
    let low := bits w 8 3 ∈ [0#3, 1#3] ∧ (bits w 0 8).toNat < 16
    (conflict → exec (.wrIcrLo v) s = .next ((stored (s.self.esrWith 0x00000004#32)).failed (.invalidDestination icr) .none)) ∧
    (¬conflict → low → exec (.wrIcrLo v) s =
      .next ((stored (s.self.esrWith 0x00000020#32)).failed (.illegalVector (bits w 0 8)) .none)) ∧
    (¬conflict → ¬low → bits w 18 2 = 0#2 → (stored s.self.esr).resolve icr = [] → exec (.wrIcrLo v) s =
      .next ((stored (s.self.esrWith 0x00000004#32)).failed (.unresolvedTarget (bits s.self.icrHi 24 8)) .none))

/-- A send that passes its checks makes every target perform DELIVER_IPI and leaves every other instance alone. Tier 2; derived; 44_icr_ipi.md section 2, 20_memory.md section 4, 40_register_bank.md section 2. -/
def Obligations.SendDeliversToEveryTarget : Prop :=
  ∀ (s : State) (v : Word), let w := icrLoStored v
    let s1 : State := { s with self := { s.self with icrLo := w } }
    let targets := s1.resolve (assembleIcr s.self.icrHi w)
    let msg : BitVec 40 := s.self.par.apicId ++ w
    let run (l : Lapic) : Lapic := if l.par.apicId ∈ targets then (l.deliver msg).lapic else l
    (bits w 18 2 = 0#2 ∨ bits s.self.icrHi 24 8 = 0#8) → (bits w 8 3 ∈ [0#3, 1#3] → 16 ≤ (bits w 0 8).toNat) →
    (bits w 8 3 = 1#3 → targets = []) → (bits w 18 2 = 0#2 → targets ≠ []) →
      (∃ t, exec (.wrIcrLo v) s = .next t ∧ t.self = run s1.self ∧ t.peers = s.peers.map run ∧
        t.platform = s.platform ∧ t.queue = s.queue ∧ t.picks = s.picks ∧ t.seen = s.seen ∧
        t.looks = s.looks.filter (fun k => k.sender ∉ targets) ∧ t.out.resp = some { error := none, rdata := .none } ∧
        t.out.ipi.Perm (targets.map fun id => { target := id, msg := msg }) ∧
        t.out.ctl.Perm (s1.vcpus.filterMap fun l =>
          if l.par.apicId ∈ targets then (l.deliver msg).event.map fun e => (l.par.apicId, e) else none)) ∧
      (targets = [] → exec (.wrIcrLo v) s = .next (s.updated s1.self))

/-- A Fixed send to all but self posts the vector in every other instance and never in the sender. Tier 2; derived; 95_test_vectors.md section 1.8, 44_icr_ipi.md section 4. -/
def Obligations.AllExcludingSelfReachesEveryOther : Prop :=
  ∀ (s : State) (v : Vec), s.DistinctIds → bits s.self.icrHi 24 8 = 0#8 → 16 ≤ v.toNat →
    ∃ t, exec (.wrIcrLo (0x000C0000#32 ||| v.setWidth 32)) s = .next t ∧
      t.self = { s.self with icrLo := 0x000C0000#32 ||| v.setWidth 32 } ∧
      t.peers = s.peers.map (fun p => if Bitmap.has p.irr v = true then p
        else { p with irr := Bitmap.set p.irr v, tmr := Bitmap.clear p.tmr v }) ∧
      t.out.resp = some { error := none, rdata := .none }

/-- A LowestPriority send delivers to exactly one member of the resolved set, whichever the election picks. Tier 2; derived; 44_icr_ipi.md section 2, 20_memory.md section 4, 40_register_bank.md section 2. -/
def Obligations.LowestPriorityElectsOneTarget : Prop :=
  ∀ (s : State) (v : Word), let w := icrLoStored v
    let s1 : State := { s with self := { s.self with icrLo := w } }
    let targets := s1.resolve (assembleIcr s.self.icrHi w)
    let msg : BitVec 40 := s.self.par.apicId ++ w
    bits w 8 3 = 1#3 → 16 ≤ (bits w 0 8).toNat → (bits w 18 2 = 0#2 ∨ bits s.self.icrHi 24 8 = 0#8) → targets ≠ [] →
      ∃ id ∈ targets, let run (l : Lapic) : Lapic := if l.par.apicId = id then (l.deliver msg).lapic else l
        exec (.wrIcrLo v) s = .next { s1 with
          self := run s1.self
          peers := s.peers.map run
          picks := s.picks + 1
          looks := s.looks.filter fun k => k.sender ≠ id
          out := { resp := some { error := none, rdata := .none }, ctl := [], ipi := [{ target := id, msg := msg }] } } ∧
        (s.platform.pick = .leastPriority → ∃ e ∈ s1.vcpus, e.par.apicId = id ∧ ∀ o ∈ s1.vcpus, o.par.apicId ∈ targets →
          e.ppr < o.ppr ∨ e.ppr = o.ppr ∧ e.par.apicId ≤ o.par.apicId)

/-- WR_ICR_LO leaves the masked and coerced value in ICR_LO, delivery status Idle, whether or not the send succeeds. Tier 2; derived; 40_register_bank.md section 5, 44_icr_ipi.md section 2. -/
def Obligations.IcrLowAlwaysKeepsTheWrittenValue : Prop :=
  ∀ (s : State) (v : Word), ∃ t, exec (.wrIcrLo v) s = .next t ∧
    bits t.self.icrLo 8 3 = (if bits v 8 3 = 3#3 then 2#3 else bits v 8 3) ∧
    (∀ i < 32, (i < 8 ∨ 10 < i) → t.self.icrLo.getLsbD i = ((0x000CCFFF#32).getLsbD i && v.getLsbD i)) ∧
    t.self.icrLo.getLsbD 12 = false ∧ t.self.icrHi = s.self.icrHi

/-- DELIVER_IPI posts Fixed and LowestPriority messages and forwards every other as one event. Tier 2; stated; R187. -/
def Obligations.DeliverIpiPostsOrForwards : Prop :=
  ∀ (s : State) (msg : BitVec 40), let v := bits msg 0 8
    let m := coerce [0#3, 1#3, 2#3, 4#3, 5#3, 6#3, 7#3] (bits msg 8 3)
    (m = 0#3 ∨ m = 1#3 → 16 ≤ v.toNat → Bitmap.has s.self.irr v = false →
      exec (.deliverIpi msg) s = .next (s.updated { s.self with
        irr := Bitmap.set s.self.irr v
        tmr := if msg.getLsbD 15 then Bitmap.set s.self.tmr v else Bitmap.clear s.self.tmr v })) ∧
    (m = 0#3 ∨ m = 1#3 → 16 ≤ v.toNat → Bitmap.has s.self.irr v = true → exec (.deliverIpi msg) s = .next (s.answered .none)) ∧
    (m = 0#3 ∨ m = 1#3 → v.toNat < 16 → exec (.deliverIpi msg) s = .next
      (({ s with self := { s.self with esr := s.self.esrWith 0x00000040#32 } } : State).failed (.illegalVector v) .none)) ∧
    ∀ k, (m, k) ∈ [(2#3, CtlKind.smi), (4#3, .nmi), (5#3, .init), (6#3, .startup), (7#3, .extInt)] →
      exec (.deliverIpi msg) s = .next { s with out := s.emitted (
        { kind := k, vector := v, level := if msg.getLsbD 14 then .assert else .deassert,
          trigger := if msg.getLsbD 15 then .level else .edge, origin := .sender (bits msg 32 8) }) }

/-- One instance never writes another's state except through DELIVER_IPI, and a failed send writes none. Tier 3; stated; R188. -/
def Obligations.InstancesTouchOneAnotherOnlyByDeliverIpi : Prop :=
  ∀ (i : Instr) (s t : State), exec i s = .next t →
    ((∀ v, i ≠ .wrIcrLo v) → t.peers = s.peers) ∧
    ∀ v, i = .wrIcrLo v →
      (∃ targets : List ApicId, t.peers = s.peers.map fun p =>
        if p.par.apicId ∈ targets then (p.deliver (s.self.par.apicId ++ icrLoStored v)).lapic else p) ∧
      (∀ e d, t.out.resp = some { error := some e, rdata := d } →
        t.peers = s.peers ∧ ∃ esr, t.self = { s.self with icrLo := icrLoStored v, esr := esr })

/-- ESR bits never fall except by RESET, only bits 2, 5 and 6 ever rise, and none rises when recording is off. Tier 3; derived; 10_state.md section 2, 60_exceptions.md section 2. -/
def Obligations.EsrBitsAreStickyAndOnlyThree : Prop :=
  ∀ (i : Instr) (s t : State), i ≠ .reset → exec i s = .next t →
    s.self.esr &&& ~~~t.self.esr = 0#32 ∧ t.self.esr &&& ~~~s.self.esr &&& ~~~0x00000064#32 = 0#32 ∧
    (s.self.par.esrRecord = false → t.self.esr = s.self.esr)

/-- Each error status is answered only by the operations the spec names for it. Tier 2; derived; 60_exceptions.md section 1. -/
def Obligations.ErrorsComeOnlyFromTheirOperations : Prop :=
  ∀ (i : Instr) (s t : State) (e : Error) (d : RData), exec i s = .next t → t.out.resp = some { error := some e, rdata := d } →
    match e with
    | .malformedAccess off sz => i = .rdMalformed sz off ∨ ∃ v, i = .wrMalformed sz off v
    | .malformedPort op => i = .portReserved op
    | .illegalVector v => v.toNat < 16 ∧ ((∃ x, i = .wrIcrLo x) ∨ (∃ m, i = .deliverIpi m) ∨
        i ∈ [Instr.lvtFireCmci, .lvtFireThermal, .lvtFirePerfmon, .lvtFireLint0, .lvtFireLint1, .lvtFireError])
    | .invalidDestination _ => ∃ x, i = .wrIcrLo x
    | .unresolvedTarget _ => ∃ x, i = .wrIcrLo x

/-- Reserved bits read zero in every register of every instance, after every step. Tier 3; derived; 10_state.md section 4. -/
def Obligations.StepKeepsReservedBitsZero : Prop :=
  ∀ s t : State, s.Every (fun l => l.ReservedZero ∧ Params.Legal l.par) → step s = .next t → t.Every (fun l => l.ReservedZero ∧ Params.Legal l.par)

/-- Every mode field holds a legal pattern in every instance, after every step. Tier 3; derived; 41_lvt.md section 1, 30_encoding.md section 4. -/
def Obligations.StepKeepsModeFieldsLegal : Prop :=
  ∀ s t : State, s.Every Lapic.ModesLegal → step s = .next t → t.Every Lapic.ModesLegal

/-- TCCR <= TICR, the prescaler is below the divide value, and only the armed mode's register is nonzero, after every step. Tier 3; derived; 10_state.md sections 3 and 4, 42_timer.md sections 4 and 6. -/
def Obligations.StepKeepsTimerWithinItsBounds : Prop :=
  ∀ s t : State, s.Every (fun l => l.CountsBounded ∧ l.OneTimerArmed) → step s = .next t →
    t.Every (fun l => l.CountsBounded ∧ l.OneTimerArmed)

/-- Vectors 0 to 15 never appear in IRR, ISR or TMR of any instance, after every step. Tier 3; derived; 10_state.md section 4. -/
def Obligations.StepKeepsLowVectorsOut : Prop :=
  ∀ s t : State, s.Every Lapic.NoLowVector → step s = .next t → t.Every Lapic.NoLowVector

/-- ISR holds at most one vector of each priority class in every instance, after every step. Tier 3; derived; 60_exceptions.md section 5. -/
def Obligations.StepKeepsOneVectorInServicePerClass : Prop :=
  ∀ s t : State, s.Every Lapic.OneInServicePerClass → step s = .next t → t.Every Lapic.OneInServicePerClass

/-- The parameters of the instances and of the system never change, and identifiers stay distinct. Tier 3; derived; 00_scope.md section 3. -/
def Obligations.StepKeepsTheSetOfInstances : Prop :=
  ∀ s t : State, s.DistinctIds → step s = .next t →
    t.DistinctIds ∧ (t.vcpus.map (·.par)).Perm (s.vcpus.map (·.par)) ∧ t.platform = s.platform

/-- The reset state meets every invariant stated here. Tier 1; derived; 10_state.md sections 4 and 5. -/
def Obligations.ResetMeetsEveryInvariant : Prop :=
  State.reset.Every (fun l => l.ReservedZero ∧ Params.Legal l.par ∧ l.ModesLegal ∧ l.CountsBounded ∧ l.OneTimerArmed ∧ l.NoLowVector ∧
    l.OneInServicePerClass) ∧ State.reset.DistinctIds ∧ State.reset.WellAddressed

/-- No operation faults or is refused in any state, and a run of any length over presented operations ends in a state. Tier 3; derived; 60_exceptions.md section 1, 20_memory.md section 4. -/
def Obligations.WellAddressedRunsNeverStop : Prop :=
  (∀ (i : Instr) (s : State), ∃ t, exec i s = .next t) ∧ ∀ (s : State) (k : Nat), s.WellAddressed → SafeRun k s

/-- Byte j of the register at an aligned offset is at MMIO_BASE + offset + j and holds its bits 8 j + 7 to 8 j. Tier 2; derived; 20_memory.md section 2, 00_scope.md section 4. -/
def Obligations.BusBytesAreLittleEndian : Prop :=
  ∀ s : State, bits s.platform.mmioBase 0 12 = 0#12 ∧
    (∀ off : BitVec 12, bits off 0 2 = 0#2 → ∃ w : Word, exec (decode (rdCommand off)) s = .next (s.answered (.word w)) ∧
      ∀ j < 4, s.busByte (s.platform.mmioBase + off.setWidth 64 + BitVec.ofNat 64 j) = some (bits w (8 * j) 8)) ∧
    ∀ a : BitVec 64, a < s.platform.mmioBase ∨ s.platform.mmioBase + 0xFFF#64 < a → s.busByte a = none
end

