-- ==== Sys2Proof/Laws/Bitmap.lean ====
section
/-! SUPPORT. The laws of the bitmaps, of `hsb` and of mode coercion. -/

namespace Sys2Proof.Machine

theorem one_shiftLeft_has (v w : Vec) : Bitmap.has (1#256 <<< v.toNat) w = decide (w = v) := by
  have hv : v.toNat < 256 := v.isLt
  have hw : w.toNat < 256 := w.isLt
  simp only [Bitmap.has, BitVec.getLsbD_shiftLeft, BitVec.getLsbD_one, BitVec.toNat_eq]
  by_cases h : w.toNat = v.toNat
  · simp [h, hv]
  · simp [h]; omega

@[simp] theorem has_zero (v : Vec) : Bitmap.has 0#256 v = false := by simp [Bitmap.has]

/-- Setting one bit. -/
@[simp] theorem has_set (m : Bitmap) (v w : Vec) : Bitmap.has (Bitmap.set m v) w = (decide (w = v) || Bitmap.has m w) := by
  have h := one_shiftLeft_has v w
  simp only [Bitmap.has, Bitmap.set, BitVec.getLsbD_or] at h ⊢
  rw [h, Bool.or_comm]

/-- Clearing one bit. -/
@[simp] theorem has_clear (m : Bitmap) (v w : Vec) : Bitmap.has (Bitmap.clear m v) w = (!decide (w = v) && Bitmap.has m w) := by
  have h := one_shiftLeft_has v w
  have hw : w.toNat < 256 := w.isLt
  simp only [Bitmap.has, Bitmap.clear, BitVec.getLsbD_and, BitVec.getLsbD_not] at h ⊢
  rw [h]; simp [hw, Bool.and_comm]

/-- Writing one bit. -/
@[simp] theorem has_put (m : Bitmap) (v w : Vec) (b : Bool) :
    Bitmap.has (Bitmap.put m v b) w = if w = v then b else Bitmap.has m w := by
  unfold Bitmap.put
  by_cases h : w = v <;> cases b <;> simp [h]

/-- Two bitmaps with the same bits are equal. -/
theorem bitmap_ext (m m' : Bitmap) (h : ∀ v, Bitmap.has m v = Bitmap.has m' v) : m = m' := by
  apply BitVec.eq_of_getLsbD_eq
  intro i hi
  have := h (BitVec.ofNat 8 i)
  simpa [Bitmap.has, Nat.mod_eq_of_lt hi] using this

theorem hsb_eq_none (m : Bitmap) : hsb m = none ↔ m = 0#256 := by unfold hsb; split <;> simp_all

/-- `hsb` names a set bit. -/
theorem hsb_has (m : Bitmap) (v : Vec) (h : hsb m = some v) : Bitmap.has m v = true := by
  unfold hsb at h
  split at h
  · cases h
  · rename_i hm
    have hm' : m.toNat ≠ 0 := fun e => hm (BitVec.eq_of_toNat_eq (by simpa using e))
    have hl : m.toNat.log2 < 256 := (Nat.log2_lt hm').mpr m.isLt
    cases h
    simp only [Bitmap.has, BitVec.toNat_ofNat, BitVec.getLsbD]
    rw [Nat.mod_eq_of_lt hl]
    exact Nat.testBit_log2 hm'

/-- No set bit is above the one `hsb` names. -/
theorem le_hsb (m : Bitmap) (v w : Vec) (h : hsb m = some v) (hw : Bitmap.has m w = true) : w ≤ v := by
  unfold hsb at h
  split at h
  · cases h
  · rename_i hm
    have hm' : m.toNat ≠ 0 := fun e => hm (BitVec.eq_of_toNat_eq (by simpa using e))
    have hl : m.toNat.log2 < 256 := (Nat.log2_lt hm').mpr m.isLt
    cases h
    rw [BitVec.le_def, BitVec.toNat_ofNat, Nat.mod_eq_of_lt hl]
    by_contra hlt
    have : m.toNat < 2 ^ w.toNat := (Nat.log2_lt hm').mp (by omega)
    have hb : m.toNat.testBit w.toNat = true := hw
    rw [Nat.testBit_lt_two_pow this] at hb
    cases hb

/-- A bitmap with a set bit has an `hsb`. -/
theorem exists_hsb (m : Bitmap) (v : Vec) (h : Bitmap.has m v = true) : ∃ w, hsb m = some w := by
  cases e : hsb m with
  | some w => exact ⟨w, rfl⟩
  | none => rw [(hsb_eq_none m).mp e] at h; simp at h

/-- Bit `i` of bank register `k` is bit `32 k + i` of the bitmap (R80). -/
theorem bankWord_bit (m : Bitmap) (k : Fin 8) (i : Nat) (hi : i < 32) :
    (bankWord m k).getLsbD i = m.getLsbD (32 * k + i) := by
  simp [bankWord, bits, hi]

/-! ## Coercion (R147): the result is legal, and a legal pattern is returned unchanged -/

theorem coerce_mem_legalModes (src : LvtSource) (p : BitVec 3) : coerce (legalModes src) p ∈ legalModes src := by
  revert p; cases src <;> decide
theorem coerce_legalModes_of_mem (src : LvtSource) (p : BitVec 3) (h : p ∈ legalModes src) : coerce (legalModes src) p = p := by
  revert p; cases src <;> decide
theorem coerce_mem_legalIcr (p : BitVec 3) : coerce legalIcr p ∈ legalIcr := by revert p; decide
theorem coerce_legalIcr_of_mem (p : BitVec 3) (h : p ∈ legalIcr) : coerce legalIcr p = p := by revert p; decide
theorem coerce_mem_legalTimerMode (p : BitVec 2) : coerce legalTimerMode p ∈ legalTimerMode := by revert p; decide
theorem coerce_legalTimerMode_of_mem (p : BitVec 2) (h : p ∈ legalTimerMode) : coerce legalTimerMode p = p := by revert p; decide

end Sys2Proof.Machine
end

