-- ==== Sys2Proof/Laws/State.lean ====
section
/-! SUPPORT. The small lemmas of the state: one per field per update, so that no later proof unfolds an update. An update that leaves
most fields alone has one lemma for each field it leaves alone. -/

namespace Sys2Proof.Machine

/-! ## The three ways to end without a send -/

@[simp] theorem reply_eq (s : State) (l : Lapic) (d : RData) :
    s.reply l d = .next { s with self := l, out := { resp := some { error := none, rdata := d }, ctl := [], ipi := [] } } := rfl
@[simp] theorem raise_eq (s : State) (l : Lapic) (e : Error) (d : RData) :
    s.raise l e d = .next { s with self := l, out := { resp := some { error := some e, rdata := d }, ctl := [], ipi := [] } } := rfl
theorem readRegister_eq (s : State) (r : Reg) : s.readRegister r = .next (s.answered (.word (s.self.readReg r))) := rfl
theorem dropWrite_eq (s : State) : s.dropWrite = .next (s.answered .none) := rfl
theorem wrote_eq (s : State) (l : Lapic) : s.wrote l = .next (s.updated l) := rfl


@[simp] theorem answered_self (s : State) (d : RData) : (s.answered d).self = s.self := rfl
@[simp] theorem answered_peers (s : State) (d : RData) : (s.answered d).peers = s.peers := rfl
@[simp] theorem answered_platform (s : State) (d : RData) : (s.answered d).platform = s.platform := rfl
@[simp] theorem answered_queue (s : State) (d : RData) : (s.answered d).queue = s.queue := rfl
@[simp] theorem answered_picks (s : State) (d : RData) : (s.answered d).picks = s.picks := rfl
@[simp] theorem answered_looks (s : State) (d : RData) : (s.answered d).looks = s.looks := rfl
@[simp] theorem answered_seen (s : State) (d : RData) : (s.answered d).seen = s.seen := rfl

@[simp] theorem failed_self (s : State) (e : Error) (d : RData) : (s.failed e d).self = s.self := rfl
@[simp] theorem failed_peers (s : State) (e : Error) (d : RData) : (s.failed e d).peers = s.peers := rfl
@[simp] theorem failed_platform (s : State) (e : Error) (d : RData) : (s.failed e d).platform = s.platform := rfl
@[simp] theorem failed_queue (s : State) (e : Error) (d : RData) : (s.failed e d).queue = s.queue := rfl
@[simp] theorem failed_picks (s : State) (e : Error) (d : RData) : (s.failed e d).picks = s.picks := rfl
@[simp] theorem failed_looks (s : State) (e : Error) (d : RData) : (s.failed e d).looks = s.looks := rfl
@[simp] theorem failed_seen (s : State) (e : Error) (d : RData) : (s.failed e d).seen = s.seen := rfl

@[simp] theorem updated_self (s : State) (l : Lapic) : (s.updated l).self = l := rfl
@[simp] theorem updated_peers (s : State) (l : Lapic) : (s.updated l).peers = s.peers := rfl
@[simp] theorem updated_platform (s : State) (l : Lapic) : (s.updated l).platform = s.platform := rfl
@[simp] theorem updated_queue (s : State) (l : Lapic) : (s.updated l).queue = s.queue := rfl
@[simp] theorem updated_picks (s : State) (l : Lapic) : (s.updated l).picks = s.picks := rfl
@[simp] theorem updated_looks (s : State) (l : Lapic) : (s.updated l).looks = s.looks := rfl
@[simp] theorem updated_seen (s : State) (l : Lapic) : (s.updated l).seen = s.seen := rfl

/-! ## An error record changes ESR alone (R196). -/

@[simp] theorem esrRecord_par (l : Lapic) (b : Nat) : (l.esrRecord b).par = l.par := by unfold Lapic.esrRecord; split <;> rfl
@[simp] theorem esrRecord_tpr (l : Lapic) (b : Nat) : (l.esrRecord b).tpr = l.tpr := by unfold Lapic.esrRecord; split <;> rfl
@[simp] theorem esrRecord_ldr (l : Lapic) (b : Nat) : (l.esrRecord b).ldr = l.ldr := by unfold Lapic.esrRecord; split <;> rfl
@[simp] theorem esrRecord_dfr (l : Lapic) (b : Nat) : (l.esrRecord b).dfr = l.dfr := by unfold Lapic.esrRecord; split <;> rfl
@[simp] theorem esrRecord_svr (l : Lapic) (b : Nat) : (l.esrRecord b).svr = l.svr := by unfold Lapic.esrRecord; split <;> rfl
@[simp] theorem esrRecord_isr (l : Lapic) (b : Nat) : (l.esrRecord b).isr = l.isr := by unfold Lapic.esrRecord; split <;> rfl
@[simp] theorem esrRecord_tmr (l : Lapic) (b : Nat) : (l.esrRecord b).tmr = l.tmr := by unfold Lapic.esrRecord; split <;> rfl
@[simp] theorem esrRecord_irr (l : Lapic) (b : Nat) : (l.esrRecord b).irr = l.irr := by unfold Lapic.esrRecord; split <;> rfl
@[simp] theorem esrRecord_lvtCmci (l : Lapic) (b : Nat) : (l.esrRecord b).lvtCmci = l.lvtCmci := by unfold Lapic.esrRecord; split <;> rfl
@[simp] theorem esrRecord_lvtTimer (l : Lapic) (b : Nat) : (l.esrRecord b).lvtTimer = l.lvtTimer := by unfold Lapic.esrRecord; split <;> rfl
@[simp] theorem esrRecord_lvtThermal (l : Lapic) (b : Nat) : (l.esrRecord b).lvtThermal = l.lvtThermal := by unfold Lapic.esrRecord; split <;> rfl
@[simp] theorem esrRecord_lvtPerfmon (l : Lapic) (b : Nat) : (l.esrRecord b).lvtPerfmon = l.lvtPerfmon := by unfold Lapic.esrRecord; split <;> rfl
@[simp] theorem esrRecord_lvtLint0 (l : Lapic) (b : Nat) : (l.esrRecord b).lvtLint0 = l.lvtLint0 := by unfold Lapic.esrRecord; split <;> rfl
@[simp] theorem esrRecord_lvtLint1 (l : Lapic) (b : Nat) : (l.esrRecord b).lvtLint1 = l.lvtLint1 := by unfold Lapic.esrRecord; split <;> rfl
@[simp] theorem esrRecord_lvtError (l : Lapic) (b : Nat) : (l.esrRecord b).lvtError = l.lvtError := by unfold Lapic.esrRecord; split <;> rfl
@[simp] theorem esrRecord_icrLo (l : Lapic) (b : Nat) : (l.esrRecord b).icrLo = l.icrLo := by unfold Lapic.esrRecord; split <;> rfl
@[simp] theorem esrRecord_icrHi (l : Lapic) (b : Nat) : (l.esrRecord b).icrHi = l.icrHi := by unfold Lapic.esrRecord; split <;> rfl
@[simp] theorem esrRecord_ticr (l : Lapic) (b : Nat) : (l.esrRecord b).ticr = l.ticr := by unfold Lapic.esrRecord; split <;> rfl
@[simp] theorem esrRecord_tccr (l : Lapic) (b : Nat) : (l.esrRecord b).tccr = l.tccr := by unfold Lapic.esrRecord; split <;> rfl
@[simp] theorem esrRecord_tdcr (l : Lapic) (b : Nat) : (l.esrRecord b).tdcr = l.tdcr := by unfold Lapic.esrRecord; split <;> rfl
@[simp] theorem esrRecord_tscdl (l : Lapic) (b : Nat) : (l.esrRecord b).tscdl = l.tscdl := by unfold Lapic.esrRecord; split <;> rfl
@[simp] theorem esrRecord_presc (l : Lapic) (b : Nat) : (l.esrRecord b).presc = l.presc := by unfold Lapic.esrRecord; split <;> rfl

/-! ## A post changes IRR, TMR and ESR alone (R172). -/

@[simp] theorem post_par (l : Lapic) (v : Vec) (tm : Trigger) : ((l.post v tm).2).par = l.par := by unfold Lapic.post; split_ifs <;> simp
@[simp] theorem post_tpr (l : Lapic) (v : Vec) (tm : Trigger) : ((l.post v tm).2).tpr = l.tpr := by unfold Lapic.post; split_ifs <;> simp
@[simp] theorem post_ldr (l : Lapic) (v : Vec) (tm : Trigger) : ((l.post v tm).2).ldr = l.ldr := by unfold Lapic.post; split_ifs <;> simp
@[simp] theorem post_dfr (l : Lapic) (v : Vec) (tm : Trigger) : ((l.post v tm).2).dfr = l.dfr := by unfold Lapic.post; split_ifs <;> simp
@[simp] theorem post_svr (l : Lapic) (v : Vec) (tm : Trigger) : ((l.post v tm).2).svr = l.svr := by unfold Lapic.post; split_ifs <;> simp
@[simp] theorem post_isr (l : Lapic) (v : Vec) (tm : Trigger) : ((l.post v tm).2).isr = l.isr := by unfold Lapic.post; split_ifs <;> simp
@[simp] theorem post_lvtCmci (l : Lapic) (v : Vec) (tm : Trigger) : ((l.post v tm).2).lvtCmci = l.lvtCmci := by unfold Lapic.post; split_ifs <;> simp
@[simp] theorem post_lvtTimer (l : Lapic) (v : Vec) (tm : Trigger) : ((l.post v tm).2).lvtTimer = l.lvtTimer := by unfold Lapic.post; split_ifs <;> simp
@[simp] theorem post_lvtThermal (l : Lapic) (v : Vec) (tm : Trigger) : ((l.post v tm).2).lvtThermal = l.lvtThermal := by unfold Lapic.post; split_ifs <;> simp
@[simp] theorem post_lvtPerfmon (l : Lapic) (v : Vec) (tm : Trigger) : ((l.post v tm).2).lvtPerfmon = l.lvtPerfmon := by unfold Lapic.post; split_ifs <;> simp
@[simp] theorem post_lvtLint0 (l : Lapic) (v : Vec) (tm : Trigger) : ((l.post v tm).2).lvtLint0 = l.lvtLint0 := by unfold Lapic.post; split_ifs <;> simp
@[simp] theorem post_lvtLint1 (l : Lapic) (v : Vec) (tm : Trigger) : ((l.post v tm).2).lvtLint1 = l.lvtLint1 := by unfold Lapic.post; split_ifs <;> simp
@[simp] theorem post_lvtError (l : Lapic) (v : Vec) (tm : Trigger) : ((l.post v tm).2).lvtError = l.lvtError := by unfold Lapic.post; split_ifs <;> simp
@[simp] theorem post_icrLo (l : Lapic) (v : Vec) (tm : Trigger) : ((l.post v tm).2).icrLo = l.icrLo := by unfold Lapic.post; split_ifs <;> simp
@[simp] theorem post_icrHi (l : Lapic) (v : Vec) (tm : Trigger) : ((l.post v tm).2).icrHi = l.icrHi := by unfold Lapic.post; split_ifs <;> simp
@[simp] theorem post_ticr (l : Lapic) (v : Vec) (tm : Trigger) : ((l.post v tm).2).ticr = l.ticr := by unfold Lapic.post; split_ifs <;> simp
@[simp] theorem post_tccr (l : Lapic) (v : Vec) (tm : Trigger) : ((l.post v tm).2).tccr = l.tccr := by unfold Lapic.post; split_ifs <;> simp
@[simp] theorem post_tdcr (l : Lapic) (v : Vec) (tm : Trigger) : ((l.post v tm).2).tdcr = l.tdcr := by unfold Lapic.post; split_ifs <;> simp
@[simp] theorem post_tscdl (l : Lapic) (v : Vec) (tm : Trigger) : ((l.post v tm).2).tscdl = l.tscdl := by unfold Lapic.post; split_ifs <;> simp
@[simp] theorem post_presc (l : Lapic) (v : Vec) (tm : Trigger) : ((l.post v tm).2).presc = l.presc := by unfold Lapic.post; split_ifs <;> simp

/-! ## An acceptance changes IRR and ISR alone (R177). -/

@[simp] theorem accept_par (l : Lapic) (v : Vec) : (l.accept v).par = l.par := by unfold Lapic.accept; split <;> rfl
@[simp] theorem accept_tpr (l : Lapic) (v : Vec) : (l.accept v).tpr = l.tpr := by unfold Lapic.accept; split <;> rfl
@[simp] theorem accept_ldr (l : Lapic) (v : Vec) : (l.accept v).ldr = l.ldr := by unfold Lapic.accept; split <;> rfl
@[simp] theorem accept_dfr (l : Lapic) (v : Vec) : (l.accept v).dfr = l.dfr := by unfold Lapic.accept; split <;> rfl
@[simp] theorem accept_svr (l : Lapic) (v : Vec) : (l.accept v).svr = l.svr := by unfold Lapic.accept; split <;> rfl
@[simp] theorem accept_tmr (l : Lapic) (v : Vec) : (l.accept v).tmr = l.tmr := by unfold Lapic.accept; split <;> rfl
@[simp] theorem accept_esr (l : Lapic) (v : Vec) : (l.accept v).esr = l.esr := by unfold Lapic.accept; split <;> rfl
@[simp] theorem accept_lvtCmci (l : Lapic) (v : Vec) : (l.accept v).lvtCmci = l.lvtCmci := by unfold Lapic.accept; split <;> rfl
@[simp] theorem accept_lvtTimer (l : Lapic) (v : Vec) : (l.accept v).lvtTimer = l.lvtTimer := by unfold Lapic.accept; split <;> rfl
@[simp] theorem accept_lvtThermal (l : Lapic) (v : Vec) : (l.accept v).lvtThermal = l.lvtThermal := by unfold Lapic.accept; split <;> rfl
@[simp] theorem accept_lvtPerfmon (l : Lapic) (v : Vec) : (l.accept v).lvtPerfmon = l.lvtPerfmon := by unfold Lapic.accept; split <;> rfl
@[simp] theorem accept_lvtLint0 (l : Lapic) (v : Vec) : (l.accept v).lvtLint0 = l.lvtLint0 := by unfold Lapic.accept; split <;> rfl
@[simp] theorem accept_lvtLint1 (l : Lapic) (v : Vec) : (l.accept v).lvtLint1 = l.lvtLint1 := by unfold Lapic.accept; split <;> rfl
@[simp] theorem accept_lvtError (l : Lapic) (v : Vec) : (l.accept v).lvtError = l.lvtError := by unfold Lapic.accept; split <;> rfl
@[simp] theorem accept_icrLo (l : Lapic) (v : Vec) : (l.accept v).icrLo = l.icrLo := by unfold Lapic.accept; split <;> rfl
@[simp] theorem accept_icrHi (l : Lapic) (v : Vec) : (l.accept v).icrHi = l.icrHi := by unfold Lapic.accept; split <;> rfl
@[simp] theorem accept_ticr (l : Lapic) (v : Vec) : (l.accept v).ticr = l.ticr := by unfold Lapic.accept; split <;> rfl
@[simp] theorem accept_tccr (l : Lapic) (v : Vec) : (l.accept v).tccr = l.tccr := by unfold Lapic.accept; split <;> rfl
@[simp] theorem accept_tdcr (l : Lapic) (v : Vec) : (l.accept v).tdcr = l.tdcr := by unfold Lapic.accept; split <;> rfl
@[simp] theorem accept_tscdl (l : Lapic) (v : Vec) : (l.accept v).tscdl = l.tscdl := by unfold Lapic.accept; split <;> rfl
@[simp] theorem accept_presc (l : Lapic) (v : Vec) : (l.accept v).presc = l.presc := by unfold Lapic.accept; split <;> rfl

/-! ## An end of interrupt changes ISR and the two LINT entries alone (R180). -/

@[simp] theorem eoi_par (l : Lapic) : (l.eoi).par = l.par := by unfold Lapic.eoi; split <;> [rfl; (split <;> rfl)]
@[simp] theorem eoi_tpr (l : Lapic) : (l.eoi).tpr = l.tpr := by unfold Lapic.eoi; split <;> [rfl; (split <;> rfl)]
@[simp] theorem eoi_ldr (l : Lapic) : (l.eoi).ldr = l.ldr := by unfold Lapic.eoi; split <;> [rfl; (split <;> rfl)]
@[simp] theorem eoi_dfr (l : Lapic) : (l.eoi).dfr = l.dfr := by unfold Lapic.eoi; split <;> [rfl; (split <;> rfl)]
@[simp] theorem eoi_svr (l : Lapic) : (l.eoi).svr = l.svr := by unfold Lapic.eoi; split <;> [rfl; (split <;> rfl)]
@[simp] theorem eoi_tmr (l : Lapic) : (l.eoi).tmr = l.tmr := by unfold Lapic.eoi; split <;> [rfl; (split <;> rfl)]
@[simp] theorem eoi_irr (l : Lapic) : (l.eoi).irr = l.irr := by unfold Lapic.eoi; split <;> [rfl; (split <;> rfl)]
@[simp] theorem eoi_esr (l : Lapic) : (l.eoi).esr = l.esr := by unfold Lapic.eoi; split <;> [rfl; (split <;> rfl)]
@[simp] theorem eoi_lvtCmci (l : Lapic) : (l.eoi).lvtCmci = l.lvtCmci := by unfold Lapic.eoi; split <;> [rfl; (split <;> rfl)]
@[simp] theorem eoi_lvtTimer (l : Lapic) : (l.eoi).lvtTimer = l.lvtTimer := by unfold Lapic.eoi; split <;> [rfl; (split <;> rfl)]
@[simp] theorem eoi_lvtThermal (l : Lapic) : (l.eoi).lvtThermal = l.lvtThermal := by unfold Lapic.eoi; split <;> [rfl; (split <;> rfl)]
@[simp] theorem eoi_lvtPerfmon (l : Lapic) : (l.eoi).lvtPerfmon = l.lvtPerfmon := by unfold Lapic.eoi; split <;> [rfl; (split <;> rfl)]
@[simp] theorem eoi_lvtError (l : Lapic) : (l.eoi).lvtError = l.lvtError := by unfold Lapic.eoi; split <;> [rfl; (split <;> rfl)]
@[simp] theorem eoi_icrLo (l : Lapic) : (l.eoi).icrLo = l.icrLo := by unfold Lapic.eoi; split <;> [rfl; (split <;> rfl)]
@[simp] theorem eoi_icrHi (l : Lapic) : (l.eoi).icrHi = l.icrHi := by unfold Lapic.eoi; split <;> [rfl; (split <;> rfl)]
@[simp] theorem eoi_ticr (l : Lapic) : (l.eoi).ticr = l.ticr := by unfold Lapic.eoi; split <;> [rfl; (split <;> rfl)]
@[simp] theorem eoi_tccr (l : Lapic) : (l.eoi).tccr = l.tccr := by unfold Lapic.eoi; split <;> [rfl; (split <;> rfl)]
@[simp] theorem eoi_tdcr (l : Lapic) : (l.eoi).tdcr = l.tdcr := by unfold Lapic.eoi; split <;> [rfl; (split <;> rfl)]
@[simp] theorem eoi_tscdl (l : Lapic) : (l.eoi).tscdl = l.tscdl := by unfold Lapic.eoi; split <;> [rfl; (split <;> rfl)]
@[simp] theorem eoi_presc (l : Lapic) : (l.eoi).presc = l.presc := by unfold Lapic.eoi; split <;> [rfl; (split <;> rfl)]

/-! ## Setting remote_irr changes the two LINT entries alone (R150). -/

@[simp] theorem setRemoteIrr_par (l : Lapic) (src : LvtSource) : (l.setRemoteIrr src).par = l.par := by cases src <;> rfl
@[simp] theorem setRemoteIrr_tpr (l : Lapic) (src : LvtSource) : (l.setRemoteIrr src).tpr = l.tpr := by cases src <;> rfl
@[simp] theorem setRemoteIrr_ldr (l : Lapic) (src : LvtSource) : (l.setRemoteIrr src).ldr = l.ldr := by cases src <;> rfl
@[simp] theorem setRemoteIrr_dfr (l : Lapic) (src : LvtSource) : (l.setRemoteIrr src).dfr = l.dfr := by cases src <;> rfl
@[simp] theorem setRemoteIrr_svr (l : Lapic) (src : LvtSource) : (l.setRemoteIrr src).svr = l.svr := by cases src <;> rfl
@[simp] theorem setRemoteIrr_isr (l : Lapic) (src : LvtSource) : (l.setRemoteIrr src).isr = l.isr := by cases src <;> rfl
@[simp] theorem setRemoteIrr_tmr (l : Lapic) (src : LvtSource) : (l.setRemoteIrr src).tmr = l.tmr := by cases src <;> rfl
@[simp] theorem setRemoteIrr_irr (l : Lapic) (src : LvtSource) : (l.setRemoteIrr src).irr = l.irr := by cases src <;> rfl
@[simp] theorem setRemoteIrr_esr (l : Lapic) (src : LvtSource) : (l.setRemoteIrr src).esr = l.esr := by cases src <;> rfl
@[simp] theorem setRemoteIrr_lvtCmci (l : Lapic) (src : LvtSource) : (l.setRemoteIrr src).lvtCmci = l.lvtCmci := by cases src <;> rfl
@[simp] theorem setRemoteIrr_lvtTimer (l : Lapic) (src : LvtSource) : (l.setRemoteIrr src).lvtTimer = l.lvtTimer := by cases src <;> rfl
@[simp] theorem setRemoteIrr_lvtThermal (l : Lapic) (src : LvtSource) : (l.setRemoteIrr src).lvtThermal = l.lvtThermal := by cases src <;> rfl
@[simp] theorem setRemoteIrr_lvtPerfmon (l : Lapic) (src : LvtSource) : (l.setRemoteIrr src).lvtPerfmon = l.lvtPerfmon := by cases src <;> rfl
@[simp] theorem setRemoteIrr_lvtError (l : Lapic) (src : LvtSource) : (l.setRemoteIrr src).lvtError = l.lvtError := by cases src <;> rfl
@[simp] theorem setRemoteIrr_icrLo (l : Lapic) (src : LvtSource) : (l.setRemoteIrr src).icrLo = l.icrLo := by cases src <;> rfl
@[simp] theorem setRemoteIrr_icrHi (l : Lapic) (src : LvtSource) : (l.setRemoteIrr src).icrHi = l.icrHi := by cases src <;> rfl
@[simp] theorem setRemoteIrr_ticr (l : Lapic) (src : LvtSource) : (l.setRemoteIrr src).ticr = l.ticr := by cases src <;> rfl
@[simp] theorem setRemoteIrr_tccr (l : Lapic) (src : LvtSource) : (l.setRemoteIrr src).tccr = l.tccr := by cases src <;> rfl
@[simp] theorem setRemoteIrr_tdcr (l : Lapic) (src : LvtSource) : (l.setRemoteIrr src).tdcr = l.tdcr := by cases src <;> rfl
@[simp] theorem setRemoteIrr_tscdl (l : Lapic) (src : LvtSource) : (l.setRemoteIrr src).tscdl = l.tscdl := by cases src <;> rfl
@[simp] theorem setRemoteIrr_presc (l : Lapic) (src : LvtSource) : (l.setRemoteIrr src).presc = l.presc := by cases src <;> rfl

/-! ## Disarming changes the count, the prescaler and the deadline alone (R165). -/

@[simp] theorem timerDisarm_par (l : Lapic) : (l.timerDisarm).par = l.par := rfl
@[simp] theorem timerDisarm_tpr (l : Lapic) : (l.timerDisarm).tpr = l.tpr := rfl
@[simp] theorem timerDisarm_ldr (l : Lapic) : (l.timerDisarm).ldr = l.ldr := rfl
@[simp] theorem timerDisarm_dfr (l : Lapic) : (l.timerDisarm).dfr = l.dfr := rfl
@[simp] theorem timerDisarm_svr (l : Lapic) : (l.timerDisarm).svr = l.svr := rfl
@[simp] theorem timerDisarm_isr (l : Lapic) : (l.timerDisarm).isr = l.isr := rfl
@[simp] theorem timerDisarm_tmr (l : Lapic) : (l.timerDisarm).tmr = l.tmr := rfl
@[simp] theorem timerDisarm_irr (l : Lapic) : (l.timerDisarm).irr = l.irr := rfl
@[simp] theorem timerDisarm_esr (l : Lapic) : (l.timerDisarm).esr = l.esr := rfl
@[simp] theorem timerDisarm_lvtCmci (l : Lapic) : (l.timerDisarm).lvtCmci = l.lvtCmci := rfl
@[simp] theorem timerDisarm_lvtTimer (l : Lapic) : (l.timerDisarm).lvtTimer = l.lvtTimer := rfl
@[simp] theorem timerDisarm_lvtThermal (l : Lapic) : (l.timerDisarm).lvtThermal = l.lvtThermal := rfl
@[simp] theorem timerDisarm_lvtPerfmon (l : Lapic) : (l.timerDisarm).lvtPerfmon = l.lvtPerfmon := rfl
@[simp] theorem timerDisarm_lvtLint0 (l : Lapic) : (l.timerDisarm).lvtLint0 = l.lvtLint0 := rfl
@[simp] theorem timerDisarm_lvtLint1 (l : Lapic) : (l.timerDisarm).lvtLint1 = l.lvtLint1 := rfl
@[simp] theorem timerDisarm_lvtError (l : Lapic) : (l.timerDisarm).lvtError = l.lvtError := rfl
@[simp] theorem timerDisarm_icrLo (l : Lapic) : (l.timerDisarm).icrLo = l.icrLo := rfl
@[simp] theorem timerDisarm_icrHi (l : Lapic) : (l.timerDisarm).icrHi = l.icrHi := rfl
@[simp] theorem timerDisarm_ticr (l : Lapic) : (l.timerDisarm).ticr = l.ticr := rfl
@[simp] theorem timerDisarm_tdcr (l : Lapic) : (l.timerDisarm).tdcr = l.tdcr := rfl

/-! ## An expiry changes IRR, TMR and ESR alone (R159). -/

@[simp] theorem expire_par (l : Lapic) : (l.expire).par = l.par := by unfold Lapic.expire; split <;> simp
@[simp] theorem expire_tpr (l : Lapic) : (l.expire).tpr = l.tpr := by unfold Lapic.expire; split <;> simp
@[simp] theorem expire_ldr (l : Lapic) : (l.expire).ldr = l.ldr := by unfold Lapic.expire; split <;> simp
@[simp] theorem expire_dfr (l : Lapic) : (l.expire).dfr = l.dfr := by unfold Lapic.expire; split <;> simp
@[simp] theorem expire_svr (l : Lapic) : (l.expire).svr = l.svr := by unfold Lapic.expire; split <;> simp
@[simp] theorem expire_isr (l : Lapic) : (l.expire).isr = l.isr := by unfold Lapic.expire; split <;> simp
@[simp] theorem expire_lvtCmci (l : Lapic) : (l.expire).lvtCmci = l.lvtCmci := by unfold Lapic.expire; split <;> simp
@[simp] theorem expire_lvtTimer (l : Lapic) : (l.expire).lvtTimer = l.lvtTimer := by unfold Lapic.expire; split <;> simp
@[simp] theorem expire_lvtThermal (l : Lapic) : (l.expire).lvtThermal = l.lvtThermal := by unfold Lapic.expire; split <;> simp
@[simp] theorem expire_lvtPerfmon (l : Lapic) : (l.expire).lvtPerfmon = l.lvtPerfmon := by unfold Lapic.expire; split <;> simp
@[simp] theorem expire_lvtLint0 (l : Lapic) : (l.expire).lvtLint0 = l.lvtLint0 := by unfold Lapic.expire; split <;> simp
@[simp] theorem expire_lvtLint1 (l : Lapic) : (l.expire).lvtLint1 = l.lvtLint1 := by unfold Lapic.expire; split <;> simp
@[simp] theorem expire_lvtError (l : Lapic) : (l.expire).lvtError = l.lvtError := by unfold Lapic.expire; split <;> simp
@[simp] theorem expire_icrLo (l : Lapic) : (l.expire).icrLo = l.icrLo := by unfold Lapic.expire; split <;> simp
@[simp] theorem expire_icrHi (l : Lapic) : (l.expire).icrHi = l.icrHi := by unfold Lapic.expire; split <;> simp
@[simp] theorem expire_ticr (l : Lapic) : (l.expire).ticr = l.ticr := by unfold Lapic.expire; split <;> simp
@[simp] theorem expire_tccr (l : Lapic) : (l.expire).tccr = l.tccr := by unfold Lapic.expire; split <;> simp
@[simp] theorem expire_tdcr (l : Lapic) : (l.expire).tdcr = l.tdcr := by unfold Lapic.expire; split <;> simp
@[simp] theorem expire_tscdl (l : Lapic) : (l.expire).tscdl = l.tscdl := by unfold Lapic.expire; split <;> simp
@[simp] theorem expire_presc (l : Lapic) : (l.expire).presc = l.presc := by unfold Lapic.expire; split <;> simp

/-! ## DELIVER_IPI changes IRR, TMR and ESR alone (R187). -/

@[simp] theorem deliver_par (l : Lapic) (msg : BitVec 40) : ((l.deliver msg).lapic).par = l.par := by
  simp only [Lapic.deliver]; split <;> [(split <;> (rename_i h; simpa using congrArg (fun p => p.2.par) h.symm)); rfl]
@[simp] theorem deliver_tpr (l : Lapic) (msg : BitVec 40) : ((l.deliver msg).lapic).tpr = l.tpr := by
  simp only [Lapic.deliver]; split <;> [(split <;> (rename_i h; simpa using congrArg (fun p => p.2.tpr) h.symm)); rfl]
@[simp] theorem deliver_ldr (l : Lapic) (msg : BitVec 40) : ((l.deliver msg).lapic).ldr = l.ldr := by
  simp only [Lapic.deliver]; split <;> [(split <;> (rename_i h; simpa using congrArg (fun p => p.2.ldr) h.symm)); rfl]
@[simp] theorem deliver_dfr (l : Lapic) (msg : BitVec 40) : ((l.deliver msg).lapic).dfr = l.dfr := by
  simp only [Lapic.deliver]; split <;> [(split <;> (rename_i h; simpa using congrArg (fun p => p.2.dfr) h.symm)); rfl]
@[simp] theorem deliver_svr (l : Lapic) (msg : BitVec 40) : ((l.deliver msg).lapic).svr = l.svr := by
  simp only [Lapic.deliver]; split <;> [(split <;> (rename_i h; simpa using congrArg (fun p => p.2.svr) h.symm)); rfl]
@[simp] theorem deliver_isr (l : Lapic) (msg : BitVec 40) : ((l.deliver msg).lapic).isr = l.isr := by
  simp only [Lapic.deliver]; split <;> [(split <;> (rename_i h; simpa using congrArg (fun p => p.2.isr) h.symm)); rfl]
@[simp] theorem deliver_lvtCmci (l : Lapic) (msg : BitVec 40) : ((l.deliver msg).lapic).lvtCmci = l.lvtCmci := by
  simp only [Lapic.deliver]; split <;> [(split <;> (rename_i h; simpa using congrArg (fun p => p.2.lvtCmci) h.symm)); rfl]
@[simp] theorem deliver_lvtTimer (l : Lapic) (msg : BitVec 40) : ((l.deliver msg).lapic).lvtTimer = l.lvtTimer := by
  simp only [Lapic.deliver]; split <;> [(split <;> (rename_i h; simpa using congrArg (fun p => p.2.lvtTimer) h.symm)); rfl]
@[simp] theorem deliver_lvtThermal (l : Lapic) (msg : BitVec 40) : ((l.deliver msg).lapic).lvtThermal = l.lvtThermal := by
  simp only [Lapic.deliver]; split <;> [(split <;> (rename_i h; simpa using congrArg (fun p => p.2.lvtThermal) h.symm)); rfl]
@[simp] theorem deliver_lvtPerfmon (l : Lapic) (msg : BitVec 40) : ((l.deliver msg).lapic).lvtPerfmon = l.lvtPerfmon := by
  simp only [Lapic.deliver]; split <;> [(split <;> (rename_i h; simpa using congrArg (fun p => p.2.lvtPerfmon) h.symm)); rfl]
@[simp] theorem deliver_lvtLint0 (l : Lapic) (msg : BitVec 40) : ((l.deliver msg).lapic).lvtLint0 = l.lvtLint0 := by
  simp only [Lapic.deliver]; split <;> [(split <;> (rename_i h; simpa using congrArg (fun p => p.2.lvtLint0) h.symm)); rfl]
@[simp] theorem deliver_lvtLint1 (l : Lapic) (msg : BitVec 40) : ((l.deliver msg).lapic).lvtLint1 = l.lvtLint1 := by
  simp only [Lapic.deliver]; split <;> [(split <;> (rename_i h; simpa using congrArg (fun p => p.2.lvtLint1) h.symm)); rfl]
@[simp] theorem deliver_lvtError (l : Lapic) (msg : BitVec 40) : ((l.deliver msg).lapic).lvtError = l.lvtError := by
  simp only [Lapic.deliver]; split <;> [(split <;> (rename_i h; simpa using congrArg (fun p => p.2.lvtError) h.symm)); rfl]
@[simp] theorem deliver_icrLo (l : Lapic) (msg : BitVec 40) : ((l.deliver msg).lapic).icrLo = l.icrLo := by
  simp only [Lapic.deliver]; split <;> [(split <;> (rename_i h; simpa using congrArg (fun p => p.2.icrLo) h.symm)); rfl]
@[simp] theorem deliver_icrHi (l : Lapic) (msg : BitVec 40) : ((l.deliver msg).lapic).icrHi = l.icrHi := by
  simp only [Lapic.deliver]; split <;> [(split <;> (rename_i h; simpa using congrArg (fun p => p.2.icrHi) h.symm)); rfl]
@[simp] theorem deliver_ticr (l : Lapic) (msg : BitVec 40) : ((l.deliver msg).lapic).ticr = l.ticr := by
  simp only [Lapic.deliver]; split <;> [(split <;> (rename_i h; simpa using congrArg (fun p => p.2.ticr) h.symm)); rfl]
@[simp] theorem deliver_tccr (l : Lapic) (msg : BitVec 40) : ((l.deliver msg).lapic).tccr = l.tccr := by
  simp only [Lapic.deliver]; split <;> [(split <;> (rename_i h; simpa using congrArg (fun p => p.2.tccr) h.symm)); rfl]
@[simp] theorem deliver_tdcr (l : Lapic) (msg : BitVec 40) : ((l.deliver msg).lapic).tdcr = l.tdcr := by
  simp only [Lapic.deliver]; split <;> [(split <;> (rename_i h; simpa using congrArg (fun p => p.2.tdcr) h.symm)); rfl]
@[simp] theorem deliver_tscdl (l : Lapic) (msg : BitVec 40) : ((l.deliver msg).lapic).tscdl = l.tscdl := by
  simp only [Lapic.deliver]; split <;> [(split <;> (rename_i h; simpa using congrArg (fun p => p.2.tscdl) h.symm)); rfl]
@[simp] theorem deliver_presc (l : Lapic) (msg : BitVec 40) : ((l.deliver msg).lapic).presc = l.presc := by
  simp only [Lapic.deliver]; split <;> [(split <;> (rename_i h; simpa using congrArg (fun p => p.2.presc) h.symm)); rfl]

/-! ## One tick changes IRR, TMR, ESR, TCCR and the prescaler alone (R162). -/

@[simp] theorem tickOne_par (l : Lapic) : (l.tickOne).par = l.par := by unfold Lapic.tickOne; dsimp only; split_ifs <;> simp
@[simp] theorem tickOne_tpr (l : Lapic) : (l.tickOne).tpr = l.tpr := by unfold Lapic.tickOne; dsimp only; split_ifs <;> simp
@[simp] theorem tickOne_ldr (l : Lapic) : (l.tickOne).ldr = l.ldr := by unfold Lapic.tickOne; dsimp only; split_ifs <;> simp
@[simp] theorem tickOne_dfr (l : Lapic) : (l.tickOne).dfr = l.dfr := by unfold Lapic.tickOne; dsimp only; split_ifs <;> simp
@[simp] theorem tickOne_svr (l : Lapic) : (l.tickOne).svr = l.svr := by unfold Lapic.tickOne; dsimp only; split_ifs <;> simp
@[simp] theorem tickOne_isr (l : Lapic) : (l.tickOne).isr = l.isr := by unfold Lapic.tickOne; dsimp only; split_ifs <;> simp
@[simp] theorem tickOne_lvtCmci (l : Lapic) : (l.tickOne).lvtCmci = l.lvtCmci := by unfold Lapic.tickOne; dsimp only; split_ifs <;> simp
@[simp] theorem tickOne_lvtTimer (l : Lapic) : (l.tickOne).lvtTimer = l.lvtTimer := by unfold Lapic.tickOne; dsimp only; split_ifs <;> simp
@[simp] theorem tickOne_lvtThermal (l : Lapic) : (l.tickOne).lvtThermal = l.lvtThermal := by unfold Lapic.tickOne; dsimp only; split_ifs <;> simp
@[simp] theorem tickOne_lvtPerfmon (l : Lapic) : (l.tickOne).lvtPerfmon = l.lvtPerfmon := by unfold Lapic.tickOne; dsimp only; split_ifs <;> simp
@[simp] theorem tickOne_lvtLint0 (l : Lapic) : (l.tickOne).lvtLint0 = l.lvtLint0 := by unfold Lapic.tickOne; dsimp only; split_ifs <;> simp
@[simp] theorem tickOne_lvtLint1 (l : Lapic) : (l.tickOne).lvtLint1 = l.lvtLint1 := by unfold Lapic.tickOne; dsimp only; split_ifs <;> simp
@[simp] theorem tickOne_lvtError (l : Lapic) : (l.tickOne).lvtError = l.lvtError := by unfold Lapic.tickOne; dsimp only; split_ifs <;> simp
@[simp] theorem tickOne_icrLo (l : Lapic) : (l.tickOne).icrLo = l.icrLo := by unfold Lapic.tickOne; dsimp only; split_ifs <;> simp
@[simp] theorem tickOne_icrHi (l : Lapic) : (l.tickOne).icrHi = l.icrHi := by unfold Lapic.tickOne; dsimp only; split_ifs <;> simp
@[simp] theorem tickOne_ticr (l : Lapic) : (l.tickOne).ticr = l.ticr := by unfold Lapic.tickOne; dsimp only; split_ifs <;> simp
@[simp] theorem tickOne_tdcr (l : Lapic) : (l.tickOne).tdcr = l.tdcr := by unfold Lapic.tickOne; dsimp only; split_ifs <;> simp
@[simp] theorem tickOne_tscdl (l : Lapic) : (l.tickOne).tscdl = l.tscdl := by unfold Lapic.tickOne; dsimp only; split_ifs <;> simp

/-! ## TICK changes IRR, TMR, ESR, TCCR and the prescaler alone (R163). -/

@[simp] theorem tickBy_par (l : Lapic) (n : Nat) : (l.tickBy n).par = l.par := by unfold Lapic.tickBy; dsimp only; split_ifs <;> simp
@[simp] theorem tickBy_tpr (l : Lapic) (n : Nat) : (l.tickBy n).tpr = l.tpr := by unfold Lapic.tickBy; dsimp only; split_ifs <;> simp
@[simp] theorem tickBy_ldr (l : Lapic) (n : Nat) : (l.tickBy n).ldr = l.ldr := by unfold Lapic.tickBy; dsimp only; split_ifs <;> simp
@[simp] theorem tickBy_dfr (l : Lapic) (n : Nat) : (l.tickBy n).dfr = l.dfr := by unfold Lapic.tickBy; dsimp only; split_ifs <;> simp
@[simp] theorem tickBy_svr (l : Lapic) (n : Nat) : (l.tickBy n).svr = l.svr := by unfold Lapic.tickBy; dsimp only; split_ifs <;> simp
@[simp] theorem tickBy_isr (l : Lapic) (n : Nat) : (l.tickBy n).isr = l.isr := by unfold Lapic.tickBy; dsimp only; split_ifs <;> simp
@[simp] theorem tickBy_lvtCmci (l : Lapic) (n : Nat) : (l.tickBy n).lvtCmci = l.lvtCmci := by unfold Lapic.tickBy; dsimp only; split_ifs <;> simp
@[simp] theorem tickBy_lvtTimer (l : Lapic) (n : Nat) : (l.tickBy n).lvtTimer = l.lvtTimer := by unfold Lapic.tickBy; dsimp only; split_ifs <;> simp
@[simp] theorem tickBy_lvtThermal (l : Lapic) (n : Nat) : (l.tickBy n).lvtThermal = l.lvtThermal := by unfold Lapic.tickBy; dsimp only; split_ifs <;> simp
@[simp] theorem tickBy_lvtPerfmon (l : Lapic) (n : Nat) : (l.tickBy n).lvtPerfmon = l.lvtPerfmon := by unfold Lapic.tickBy; dsimp only; split_ifs <;> simp
@[simp] theorem tickBy_lvtLint0 (l : Lapic) (n : Nat) : (l.tickBy n).lvtLint0 = l.lvtLint0 := by unfold Lapic.tickBy; dsimp only; split_ifs <;> simp
@[simp] theorem tickBy_lvtLint1 (l : Lapic) (n : Nat) : (l.tickBy n).lvtLint1 = l.lvtLint1 := by unfold Lapic.tickBy; dsimp only; split_ifs <;> simp
@[simp] theorem tickBy_lvtError (l : Lapic) (n : Nat) : (l.tickBy n).lvtError = l.lvtError := by unfold Lapic.tickBy; dsimp only; split_ifs <;> simp
@[simp] theorem tickBy_icrLo (l : Lapic) (n : Nat) : (l.tickBy n).icrLo = l.icrLo := by unfold Lapic.tickBy; dsimp only; split_ifs <;> simp
@[simp] theorem tickBy_icrHi (l : Lapic) (n : Nat) : (l.tickBy n).icrHi = l.icrHi := by unfold Lapic.tickBy; dsimp only; split_ifs <;> simp
@[simp] theorem tickBy_ticr (l : Lapic) (n : Nat) : (l.tickBy n).ticr = l.ticr := by unfold Lapic.tickBy; dsimp only; split_ifs <;> simp
@[simp] theorem tickBy_tdcr (l : Lapic) (n : Nat) : (l.tickBy n).tdcr = l.tdcr := by unfold Lapic.tickBy; dsimp only; split_ifs <;> simp
@[simp] theorem tickBy_tscdl (l : Lapic) (n : Nat) : (l.tickBy n).tscdl = l.tscdl := by unfold Lapic.tickBy; dsimp only; split_ifs <;> simp

/-! ## Taking the looks of `self` changes `looks` and `seen` alone, and a look changes `looks` alone (R184). -/

@[simp] theorem takeLooks_self (s : State) : s.takeLooks.self = s.self := rfl
@[simp] theorem takeLooks_peers (s : State) : s.takeLooks.peers = s.peers := rfl
@[simp] theorem takeLooks_platform (s : State) : s.takeLooks.platform = s.platform := rfl
@[simp] theorem takeLooks_queue (s : State) : s.takeLooks.queue = s.queue := rfl
@[simp] theorem takeLooks_out (s : State) : s.takeLooks.out = s.out := rfl
@[simp] theorem takeLooks_picks (s : State) : s.takeLooks.picks = s.picks := rfl
@[simp] theorem takeLooks_vcpus (s : State) : s.takeLooks.vcpus = s.vcpus := rfl

@[simp] theorem look_self (s : State) (cpu target : ApicId) : (s.look cpu target).self = s.self := by unfold State.look; split <;> rfl
@[simp] theorem look_peers (s : State) (cpu target : ApicId) : (s.look cpu target).peers = s.peers := by unfold State.look; split <;> rfl
@[simp] theorem look_platform (s : State) (cpu target : ApicId) : (s.look cpu target).platform = s.platform := by unfold State.look; split <;> rfl
@[simp] theorem look_queue (s : State) (cpu target : ApicId) : (s.look cpu target).queue = s.queue := by unfold State.look; split <;> rfl
@[simp] theorem look_out (s : State) (cpu target : ApicId) : (s.look cpu target).out = s.out := by unfold State.look; split <;> rfl
@[simp] theorem look_picks (s : State) (cpu target : ApicId) : (s.look cpu target).picks = s.picks := by unfold State.look; split <;> rfl
@[simp] theorem look_seen (s : State) (cpu target : ApicId) : (s.look cpu target).seen = s.seen := by unfold State.look; split <;> rfl
@[simp] theorem look_vcpus (s : State) (cpu target : ApicId) : (s.look cpu target).vcpus = s.vcpus := by simp [State.vcpus]

end Sys2Proof.Machine
end

