-- ==== Sys2Proof/Laws/Ops.lean ====
section
/-! SUPPORT. For each shared operation one lemma that says everything it can do; later proofs cite it instead of unfolding the
operation. -/

namespace Sys2Proof.Machine

/-! ## Views that read one field -/

theorem mode_congr {l l' : Lapic} (h : l.lvtTimer = l'.lvtTimer) : l.mode = l'.mode := by simp [Lapic.mode, h]
theorem divideValue_congr {l l' : Lapic} (h : l.tdcr = l'.tdcr) : l.divideValue = l'.divideValue := by
  simp [Lapic.divideValue, h]
@[simp] theorem expire_mode (l : Lapic) : l.expire.mode = l.mode := mode_congr (by simp)
@[simp] theorem tickOne_mode (l : Lapic) : l.tickOne.mode = l.mode := mode_congr (by simp)
@[simp] theorem tickBy_mode (l : Lapic) (n : Nat) : (l.tickBy n).mode = l.mode := mode_congr (by simp)
@[simp] theorem expire_divideValue (l : Lapic) : l.expire.divideValue = l.divideValue := divideValue_congr (by simp)
@[simp] theorem tickOne_divideValue (l : Lapic) : l.tickOne.divideValue = l.divideValue := divideValue_congr (by simp)
@[simp] theorem tickBy_divideValue (l : Lapic) (n : Nat) : (l.tickBy n).divideValue = l.divideValue := divideValue_congr (by simp)

/-- The divide value is one of 1 to 128 (R11, R84). -/
theorem divideValue_bounds (l : Lapic) : 1 ≤ l.divideValue ∧ l.divideValue ≤ 128 := by
  unfold Lapic.divideValue
  generalize divideSelect l.tdcr = d
  revert d; decide

/-! ## One instance -/

/-- An error record is an OR of one bit, or nothing (R196). -/
theorem esrRecord_cases (l : Lapic) (b : Nat) :
    l.esrRecord b = { l with esr := l.esr ||| (1#32 <<< b) } ∧ l.par.esrRecord = true ∨
    l.esrRecord b = l ∧ l.par.esrRecord = false := by
  unfold Lapic.esrRecord; split <;> simp_all

/-- The three ways a post can go (R172). -/
theorem post_cases (l : Lapic) (v : Vec) (tm : Trigger) :
    v.toNat < 16 ∧ l.post v tm = (.illegalVector, l.esrRecord 6) ∨
    16 ≤ v.toNat ∧ Bitmap.has l.irr v = true ∧ l.post v tm = (.alreadyPending, l) ∨
    16 ≤ v.toNat ∧ Bitmap.has l.irr v = false ∧
      l.post v tm = (.posted, { l with irr := Bitmap.set l.irr v, tmr := Bitmap.put l.tmr v (tm = .level) }) := by
  unfold Lapic.post
  split
  · exact .inl ⟨‹_›, rfl⟩
  · split
    · exact .inr (.inl ⟨by omega, ‹_›, rfl⟩)
    · exact .inr (.inr ⟨by omega, by simp_all, rfl⟩)

/-- An expiry posts the timer's vector as Edge unless the entry is masked (R159). -/
theorem expire_cases (l : Lapic) :
    l.lvtTimer.getLsbD 16 = true ∧ l.expire = l ∨
    l.lvtTimer.getLsbD 16 = false ∧ l.expire = (l.post (bits l.lvtTimer 0 8) .edge).2 := by
  unfold Lapic.expire; split <;> simp_all

/-- An acceptance moves the vector, or does nothing when it is not pending (R177). -/
theorem accept_cases (l : Lapic) (v : Vec) :
    Bitmap.has l.irr v = true ∧ l.accept v = { l with irr := Bitmap.clear l.irr v, isr := Bitmap.set l.isr v } ∨
    Bitmap.has l.irr v = false ∧ l.accept v = l := by
  unfold Lapic.accept; split <;> simp_all

/-- An end of interrupt retires the highest in-service vector, or does nothing when there is none (R180). -/
theorem eoi_cases (l : Lapic) :
    l.isr = 0#256 ∧ l.eoi = l ∨
    ∃ v, hsb l.isr = some v ∧
      (Bitmap.has l.tmr v = false ∧ l.eoi = { l with isr := Bitmap.clear l.isr v } ∨
       Bitmap.has l.tmr v = true ∧ l.eoi = { l with
         isr := Bitmap.clear l.isr v
         lvtLint0 := ackRemoteIrr l.lvtLint0 v
         lvtLint1 := ackRemoteIrr l.lvtLint1 v }) := by
  unfold Lapic.eoi
  cases h : hsb l.isr with
  | none => exact .inl ⟨(hsb_eq_none _).mp h, rfl⟩
  | some v =>
    refine .inr ⟨v, rfl, ?_⟩
    by_cases ht : Bitmap.has l.tmr v = true <;> simp_all

/-- One tick of a timer that does not count changes nothing; of one that does, it counts the prescaler or the count (R162). -/
theorem tickOne_cases (l : Lapic) :
    (l.mode = .tscDeadline ∨ l.tccr = 0#32) ∧ l.tickOne = l ∨
    l.mode ≠ .tscDeadline ∧ l.tccr ≠ 0#32 ∧
      (l.presc + 1 < l.divideValue ∧ l.tickOne = { l with presc := l.presc + 1 } ∨
       l.divideValue ≤ l.presc + 1 ∧ l.tccr ≠ 1#32 ∧ l.tickOne = { l with presc := 0, tccr := l.tccr - 1#32 } ∨
       l.divideValue ≤ l.presc + 1 ∧ l.tccr = 1#32 ∧
         l.tickOne = { l.expire with presc := 0, tccr := if l.mode = .periodic then l.ticr else 0#32 }) := by
  have key : l.tccr - 1#32 = 0#32 ↔ l.tccr = 1#32 := by constructor <;> intro h <;> bv_omega
  have hexp (x : Lapic) (c : Word) : ({ x with presc := 0, tccr := c } : Lapic).expire = { x.expire with presc := 0, tccr := c } := by
    simp only [Lapic.expire, Lapic.post, Lapic.esrRecord]
    repeat' split
    all_goals rfl
  unfold Lapic.tickOne
  dsimp only
  by_cases h0 : l.mode = .tscDeadline ∨ l.tccr = 0#32
  · exact .inl ⟨h0, if_pos h0⟩
  · refine .inr ⟨fun h => h0 (.inl h), fun h => h0 (.inr h), ?_⟩
    rw [if_neg h0]
    by_cases h1 : l.presc + 1 < l.divideValue
    · exact .inl ⟨h1, if_pos h1⟩
    · rw [if_neg h1]
      by_cases h2 : l.tccr = 1#32
      · refine .inr (.inr ⟨by omega, h2, ?_⟩)
        rw [if_pos (key.mpr h2), hexp]
        have hm : ({ l.expire with presc := 0, tccr := l.tccr - 1#32 } : Lapic).mode = l.mode := mode_congr (by simp)
        rw [hm, key.mpr h2]
        split <;> simp
      · exact .inr (.inl ⟨by omega, h2, if_neg (fun h => h2 (key.mp h))⟩)

/-- What `DELIVER_IPI` can do to the instance it is performed on (R187). -/
theorem deliver_cases (l : Lapic) (msg : BitVec 40) :
    (∃ k, (DeliveryMode.ofBits (coerce legalIcr (bits msg 8 3))).ctlKind = some k ∧ (l.deliver msg).lapic = l ∧
      (l.deliver msg).error = none ∧ ∃ e, (l.deliver msg).event = some e ∧ e.kind = k) ∨
    (DeliveryMode.ofBits (coerce legalIcr (bits msg 8 3))).ctlKind = none ∧ (l.deliver msg).event = none ∧
      (l.deliver msg).lapic = (l.post (bits msg 0 8) (Trigger.ofBool (msg.getLsbD 15))).2 ∧
      ((l.deliver msg).error = none ∨ (l.deliver msg).error = some (.illegalVector (bits msg 0 8))) := by
  simp only [Lapic.deliver]
  split
  · rename_i h
    refine .inr ⟨h, ?_⟩
    split <;> rename_i hp <;> refine ⟨rfl, by rw [hp], ?_⟩ <;> simp
  · rename_i k h
    exact .inl ⟨k, h, rfl, rfl, _, rfl, rfl⟩

/-! ## The system -/

/-- A local event is dropped, is posted, or leaves as one event (R150). -/
theorem fire_cases (s : State) (src : LvtSource) :
    let e := decodeLvt src (s.self.lvt src)
    e.mask = true ∧ s.fire src = s.reply s.self .none ∨
    e.mask = false ∧ e.deliveryMode.ctlKind = none ∧
      (e.vector.toNat < 16 ∧ s.fire src = s.raise (s.self.esrRecord 6) (.illegalVector e.vector) .none ∨
       16 ≤ e.vector.toNat ∧ Bitmap.has s.self.irr e.vector = true ∧ s.fire src = s.reply s.self .none ∨
       16 ≤ e.vector.toNat ∧ Bitmap.has s.self.irr e.vector = false ∧
         s.fire src = s.reply (if e.trigger = .level then (s.self.post e.vector e.trigger).2.setRemoteIrr src
           else (s.self.post e.vector e.trigger).2) .none) ∨
    e.mask = false ∧ ∃ k, e.deliveryMode.ctlKind = some k ∧ s.fire src = s.emit s.self
      { kind := k, vector := e.vector, level := .assert, trigger := e.trigger, origin := .lvt src } := by
  intro e
  have he : decodeLvt src (s.self.lvt src) = e := rfl
  unfold State.fire
  dsimp only
  rw [he]
  cases hm : e.mask with
  | true => exact .inl ⟨rfl, rfl⟩
  | false =>
    refine .inr ?_
    cases hk : e.deliveryMode.ctlKind with
    | some k => exact .inr ⟨rfl, k, rfl, rfl⟩
    | none =>
      refine .inl ⟨rfl, rfl, ?_⟩
      obtain ⟨hv, hp⟩ | ⟨hv, hb, hp⟩ | ⟨hv, hb, hp⟩ := post_cases s.self e.vector e.trigger
      · exact .inl ⟨hv, by simp [hp]⟩
      · exact .inr (.inl ⟨hv, hb, by simp [hp]⟩)
      · exact .inr (.inr ⟨hv, hb, by simp [hp]⟩)

/-- A send either fails, recording bit 2 or bit 5 in the sender's ESR and nothing else, or delivers one message to some targets (R183). -/
theorem send_cases (s : State) :
    (∃ b e, (b = 2 ∨ b = 5) ∧ s.send = s.raise (s.self.esrRecord b) e .none) ∨
    ∃ targets n, s.send = { s with picks := n }.deliverAll targets s.self.ipiMessage := by
  simp only [State.send]
  split_ifs
  · exact .inl ⟨_, _, .inl rfl, rfl⟩
  · exact .inl ⟨_, _, .inr rfl, rfl⟩
  · exact .inl ⟨_, _, .inl rfl, rfl⟩
  · exact .inr ⟨_, _, rfl⟩
  · exact .inr ⟨_, s.picks, rfl⟩

/-- What the deliveries of a send leave: every target has performed `DELIVER_IPI`, every other instance is as it was, and the
targets have nothing left of what their begun sends had read (R67, R188, R103). -/
theorem deliverAll_spec (s : State) (targets : List ApicId) (msg : BitVec 40) :
    ∃ t, s.deliverAll targets msg = .next t ∧ t.platform = s.platform ∧ t.queue = s.queue ∧ t.picks = s.picks ∧
      t.looks = s.looks.filter (fun k => !targets.contains k.sender) ∧ t.seen = s.seen ∧
      t.vcpus = s.vcpus.map fun l => if targets.contains l.par.apicId then (l.deliver msg).lapic else l :=
  ⟨_, rfl, rfl, rfl, rfl, rfl, rfl, rfl⟩

/-- Which system is seen from another instance (R9). -/
theorem focus_cases (s t : State) (id : ApicId) (h : s.focus id = some t) :
    s.self.par.apicId = id ∧ t = s ∨
    s.self.par.apicId ≠ id ∧ ∃ p ∈ s.peers, p.par.apicId = id ∧
      t = { s with self := p, peers := s.peers.map fun q => if q.par.apicId = id then s.self else q } := by
  unfold State.focus at h
  split at h
  · exact .inl ⟨‹_›, by simpa using h.symm⟩
  · refine .inr ⟨‹_›, ?_⟩
    split at h
    · cases h
    · rename_i p hp
      exact ⟨p, List.mem_of_find?_eq_some hp, by simpa using List.find?_some hp, by simpa using h.symm⟩

/-- There is no such instance exactly when no identifier of the system is the one asked for. -/
theorem focus_none (s : State) (id : ApicId) : s.focus id = none ↔ id ∉ s.vcpus.map (·.par.apicId) := by
  unfold State.focus State.vcpus
  by_cases h : s.self.par.apicId = id
  · simp [h]
  · simp only [if_neg h, List.map_cons, List.mem_cons, List.mem_map, not_or, not_exists, not_and]
    cases hf : s.peers.find? (·.par.apicId = id) with
    | none =>
      simp only [List.find?_eq_none, decide_eq_true_eq] at hf
      simp only [true_iff]
      exact ⟨fun e => h e.symm, fun x hx e => hf x hx e⟩
    | some p =>
      have hp := List.mem_of_find?_eq_some hf
      have hid : p.par.apicId = id := by simpa using List.find?_some hf
      simp only [reduceCtorEq, false_iff, not_and, not_forall]
      exact fun _ => ⟨p, hp, by simp [hid]⟩

/-- Seen from another instance, the system holds no instance it did not hold. -/
theorem focus_mem (s t : State) (id : ApicId) (h : s.focus id = some t) (l : Lapic) (hl : l ∈ t.vcpus) : l ∈ s.vcpus := by
  obtain ⟨-, rfl⟩ | ⟨-, p, hp, -, rfl⟩ := focus_cases s t id h
  · exact hl
  · simp only [State.vcpus, List.mem_cons, List.mem_map] at hl ⊢
    obtain rfl | ⟨q, hq, rfl⟩ := hl
    · exact .inr hp
    · by_cases hqi : q.par.apicId = id <;> simp [hqi, hq]

/-- What is read of a target: the first of what was seen of it, else its LDR and DFR as they are (R184). -/
theorem logicalView_cases (s : State) (t : Lapic) :
    (∃ k ∈ s.seen, k.target = t.par.apicId ∧ s.logicalView t = (k.ldr, k.dfr)) ∨
    (∀ k ∈ s.seen, k.target ≠ t.par.apicId) ∧ s.logicalView t = (t.ldr, t.dfr) := by
  unfold State.logicalView
  cases h : s.seen.find? (·.target = t.par.apicId) with
  | some k => exact .inl ⟨k, List.mem_of_find?_eq_some h, by simpa using List.find?_some h, rfl⟩
  | none => exact .inr ⟨by simpa using h, rfl⟩

/-- A look records one target's LDR and DFR of the present moment, or nothing when there is no such instance (R184). -/
theorem look_cases (s : State) (cpu target : ApicId) :
    (∃ t ∈ s.vcpus, t.par.apicId = target ∧
      s.look cpu target = { s with looks := s.looks ++ [{ sender := cpu, target := target, ldr := t.ldr, dfr := t.dfr }] }) ∨
    (∀ t ∈ s.vcpus, t.par.apicId ≠ target) ∧ s.look cpu target = s := by
  unfold State.look
  cases h : s.vcpus.find? (·.par.apicId = target) with
  | some t => exact .inl ⟨t, List.mem_of_find?_eq_some h, by simpa using List.find?_some h, rfl⟩
  | none => exact .inr ⟨by simpa using h, rfl⟩

/-- What a step can do: nothing when nothing is presented, a fault when the instance named is not in the system, the decoded operation on
that instance with what it has looked up, or one look. -/
theorem step_cases (s : State) :
    s.queue = [] ∧ step s = .next s ∨
    ∃ p rest, s.queue = p :: rest ∧
      ({ s with queue := rest }.focus p.cpu = none ∧ step s = .fault (.noSuchInstance p.cpu) ∨
       ∃ t, { s with queue := rest }.focus p.cpu = some t ∧
         ((∃ cmd, p = .op p.cpu cmd ∧ step s = exec (decode cmd) t.takeLooks) ∨
          ∃ target, p = .look p.cpu target ∧ step s = .next ({ s with queue := rest }.look p.cpu target))) := by
  unfold step
  cases hq : s.queue with
  | nil => exact .inl ⟨rfl, rfl⟩
  | cons p rest =>
    refine .inr ⟨p, rest, rfl, ?_⟩
    cases hf : { s with queue := rest }.focus p.cpu with
    | none => exact .inl ⟨rfl, by simp [hf]⟩
    | some t =>
      refine .inr ⟨t, rfl, ?_⟩
      cases p with
      | op cpu cmd => exact .inl ⟨cmd, rfl, by simp [hf]⟩
      | look cpu target => exact .inr ⟨target, rfl, by simp only [Presented.cpu] at hf; simp [Presented.cpu, hf]⟩

end Sys2Proof.Machine
end

