-- ==== Sys2Proof/Laws/PerInstr.lean ====
section
/-! SUPPORT. The per-instruction family MatchesRow: the command the encoder gives an operation matches the row of opcode_table.json
that its mnemonic names (format, match and mask, written out here from the table). -/

namespace Sys2Proof.Laws.MatchesRow

/-- The row of an operation: MMIO or port format, match and mask. -/
def row : Instr → Bool × Nat × Nat
  | .rdId => (true, 0x2020, 0xFFFF)
  | .wrId _ => (true, 0xA020, 0xFFFF)
  | .rdVersion => (true, 0x2030, 0xFFFF)
  | .wrVersion _ => (true, 0xA030, 0xFFFF)
  | .rdTpr => (true, 0x2080, 0xFFFF)
  | .wrTpr _ => (true, 0xA080, 0xFFFF)
  | .rdPpr => (true, 0x20A0, 0xFFFF)
  | .wrPpr _ => (true, 0xA0A0, 0xFFFF)
  | .rdEoi => (true, 0x20B0, 0xFFFF)
  | .wrEoi _ => (true, 0xA0B0, 0xFFFF)
  | .rdLdr => (true, 0x20D0, 0xFFFF)
  | .wrLdr _ => (true, 0xA0D0, 0xFFFF)
  | .rdDfr => (true, 0x20E0, 0xFFFF)
  | .wrDfr _ => (true, 0xA0E0, 0xFFFF)
  | .rdSvr => (true, 0x20F0, 0xFFFF)
  | .wrSvr _ => (true, 0xA0F0, 0xFFFF)
  | .rdIsr0 => (true, 0x2100, 0xFFFF)
  | .wrIsr0 _ => (true, 0xA100, 0xFFFF)
  | .rdIsr1 => (true, 0x2110, 0xFFFF)
  | .wrIsr1 _ => (true, 0xA110, 0xFFFF)
  | .rdIsr2 => (true, 0x2120, 0xFFFF)
  | .wrIsr2 _ => (true, 0xA120, 0xFFFF)
  | .rdIsr3 => (true, 0x2130, 0xFFFF)
  | .wrIsr3 _ => (true, 0xA130, 0xFFFF)
  | .rdIsr4 => (true, 0x2140, 0xFFFF)
  | .wrIsr4 _ => (true, 0xA140, 0xFFFF)
  | .rdIsr5 => (true, 0x2150, 0xFFFF)
  | .wrIsr5 _ => (true, 0xA150, 0xFFFF)
  | .rdIsr6 => (true, 0x2160, 0xFFFF)
  | .wrIsr6 _ => (true, 0xA160, 0xFFFF)
  | .rdIsr7 => (true, 0x2170, 0xFFFF)
  | .wrIsr7 _ => (true, 0xA170, 0xFFFF)
  | .rdTmr0 => (true, 0x2180, 0xFFFF)
  | .wrTmr0 _ => (true, 0xA180, 0xFFFF)
  | .rdTmr1 => (true, 0x2190, 0xFFFF)
  | .wrTmr1 _ => (true, 0xA190, 0xFFFF)
  | .rdTmr2 => (true, 0x21A0, 0xFFFF)
  | .wrTmr2 _ => (true, 0xA1A0, 0xFFFF)
  | .rdTmr3 => (true, 0x21B0, 0xFFFF)
  | .wrTmr3 _ => (true, 0xA1B0, 0xFFFF)
  | .rdTmr4 => (true, 0x21C0, 0xFFFF)
  | .wrTmr4 _ => (true, 0xA1C0, 0xFFFF)
  | .rdTmr5 => (true, 0x21D0, 0xFFFF)
  | .wrTmr5 _ => (true, 0xA1D0, 0xFFFF)
  | .rdTmr6 => (true, 0x21E0, 0xFFFF)
  | .wrTmr6 _ => (true, 0xA1E0, 0xFFFF)
  | .rdTmr7 => (true, 0x21F0, 0xFFFF)
  | .wrTmr7 _ => (true, 0xA1F0, 0xFFFF)
  | .rdIrr0 => (true, 0x2200, 0xFFFF)
  | .wrIrr0 _ => (true, 0xA200, 0xFFFF)
  | .rdIrr1 => (true, 0x2210, 0xFFFF)
  | .wrIrr1 _ => (true, 0xA210, 0xFFFF)
  | .rdIrr2 => (true, 0x2220, 0xFFFF)
  | .wrIrr2 _ => (true, 0xA220, 0xFFFF)
  | .rdIrr3 => (true, 0x2230, 0xFFFF)
  | .wrIrr3 _ => (true, 0xA230, 0xFFFF)
  | .rdIrr4 => (true, 0x2240, 0xFFFF)
  | .wrIrr4 _ => (true, 0xA240, 0xFFFF)
  | .rdIrr5 => (true, 0x2250, 0xFFFF)
  | .wrIrr5 _ => (true, 0xA250, 0xFFFF)
  | .rdIrr6 => (true, 0x2260, 0xFFFF)
  | .wrIrr6 _ => (true, 0xA260, 0xFFFF)
  | .rdIrr7 => (true, 0x2270, 0xFFFF)
  | .wrIrr7 _ => (true, 0xA270, 0xFFFF)
  | .rdEsr => (true, 0x2280, 0xFFFF)
  | .wrEsr _ => (true, 0xA280, 0xFFFF)
  | .rdLvtCmci => (true, 0x22F0, 0xFFFF)
  | .wrLvtCmci _ => (true, 0xA2F0, 0xFFFF)
  | .rdIcrLo => (true, 0x2300, 0xFFFF)
  | .wrIcrLo _ => (true, 0xA300, 0xFFFF)
  | .rdIcrHi => (true, 0x2310, 0xFFFF)
  | .wrIcrHi _ => (true, 0xA310, 0xFFFF)
  | .rdLvtTimer => (true, 0x2320, 0xFFFF)
  | .wrLvtTimer _ => (true, 0xA320, 0xFFFF)
  | .rdLvtThermal => (true, 0x2330, 0xFFFF)
  | .wrLvtThermal _ => (true, 0xA330, 0xFFFF)
  | .rdLvtPerfmon => (true, 0x2340, 0xFFFF)
  | .wrLvtPerfmon _ => (true, 0xA340, 0xFFFF)
  | .rdLvtLint0 => (true, 0x2350, 0xFFFF)
  | .wrLvtLint0 _ => (true, 0xA350, 0xFFFF)
  | .rdLvtLint1 => (true, 0x2360, 0xFFFF)
  | .wrLvtLint1 _ => (true, 0xA360, 0xFFFF)
  | .rdLvtError => (true, 0x2370, 0xFFFF)
  | .wrLvtError _ => (true, 0xA370, 0xFFFF)
  | .rdTicr => (true, 0x2380, 0xFFFF)
  | .wrTicr _ => (true, 0xA380, 0xFFFF)
  | .rdTccr => (true, 0x2390, 0xFFFF)
  | .wrTccr _ => (true, 0xA390, 0xFFFF)
  | .rdTdcr => (true, 0x23E0, 0xFFFF)
  | .wrTdcr _ => (true, 0xA3E0, 0xFFFF)
  | .rdHole _ => (true, 0x2000, 0xF003)
  | .wrHole _ _ => (true, 0xA000, 0xF003)
  | .rdMalformed _ _ => (true, 0x0, 0x8000)
  | .wrMalformed _ _ _ => (true, 0x8000, 0x8000)
  | .reset => (false, 0x1, 0xFF)
  | .tick _ => (false, 0x2, 0xFF)
  | .tickTsc _ => (false, 0x3, 0xFF)
  | .wrTscdl _ => (false, 0x4, 0xFF)
  | .rdTscdl => (false, 0x5, 0xFF)
  | .pendingVector => (false, 0x6, 0xFF)
  | .accept => (false, 0x7, 0xFF)
  | .deliverIpi _ => (false, 0x8, 0xFF)
  | .lvtFireCmci => (false, 0x10, 0xFF)
  | .lvtFireThermal => (false, 0x11, 0xFF)
  | .lvtFirePerfmon => (false, 0x12, 0xFF)
  | .lvtFireLint0 => (false, 0x13, 0xFF)
  | .lvtFireLint1 => (false, 0x14, 0xFF)
  | .lvtFireError => (false, 0x15, 0xFF)
  | .portReserved _ => (false, 0x0, 0x0)

/-- The first word of a command, with its format. -/
def firstWord : Command → Bool × Nat
  | .mmio h _ => (true, h.toNat)
  | .side op _ => (false, op.toNat)

/-- The first word of the encoded operation has the row's format and its bits under the row's mask. -/
def Statement (i : Instr) : Prop :=
  i.wellFormed = true → (firstWord (encode i)).1 = (row i).1 ∧ (firstWord (encode i)).2 &&& (row i).2.2 = (row i).2.1

/-- Two masked words agree as numbers when they agree as bit vectors. -/
theorem masked_toNat (h mask value : BitVec n) (e : h &&& mask = value) : h.toNat &&& mask.toNat = value.toNat := by
  rw [← e, BitVec.toNat_and]

/-- An aligned 4-byte read header has the fixed bits of the row RD_HOLE. -/
theorem hole_read (off : BitVec 12) (h : accessOk 2#3 off = true) : header false 2#3 off &&& 0xF003#16 = 0x2000#16 := by
  simp only [accessOk, Bool.and_eq_true, beq_iff_eq, bits] at h
  simp only [header]
  revert h off
  decide +kernel

/-- An aligned 4-byte write header has the fixed bits of the row WR_HOLE. -/
theorem hole_write (off : BitVec 12) (h : accessOk 2#3 off = true) : header true 2#3 off &&& 0xF003#16 = 0xA000#16 := by
  simp only [accessOk, Bool.and_eq_true, beq_iff_eq, bits] at h
  simp only [header]
  revert h off
  decide +kernel

/-- The top bit of a header is its write bit. -/
theorem header_top (write : Bool) (sz : BitVec 3) (off : BitVec 12) :
    header write sz off &&& 0x8000#16 = if write then 0x8000#16 else 0#16 := by
  ext i hi
  cases write <;> simp only [header, BitVec.getElem_and, BitVec.getElem_append] <;>
    (interval_cases i <;> simp)


theorem rdId : Statement (.rdId) := fun _ => ⟨rfl, rfl⟩
theorem wrId (value : Word) : Statement (.wrId value) :=
  fun _ => ⟨rfl, masked_toNat 0xA020#16 0xFFFF#16 0xA020#16 (by decide)⟩
theorem rdVersion : Statement (.rdVersion) := fun _ => ⟨rfl, rfl⟩
theorem wrVersion (value : Word) : Statement (.wrVersion value) :=
  fun _ => ⟨rfl, masked_toNat 0xA030#16 0xFFFF#16 0xA030#16 (by decide)⟩
theorem rdTpr : Statement (.rdTpr) := fun _ => ⟨rfl, rfl⟩
theorem wrTpr (value : Word) : Statement (.wrTpr value) :=
  fun _ => ⟨rfl, masked_toNat 0xA080#16 0xFFFF#16 0xA080#16 (by decide)⟩
theorem rdPpr : Statement (.rdPpr) := fun _ => ⟨rfl, rfl⟩
theorem wrPpr (value : Word) : Statement (.wrPpr value) :=
  fun _ => ⟨rfl, masked_toNat 0xA0A0#16 0xFFFF#16 0xA0A0#16 (by decide)⟩
theorem rdEoi : Statement (.rdEoi) := fun _ => ⟨rfl, rfl⟩
theorem wrEoi (value : Word) : Statement (.wrEoi value) :=
  fun _ => ⟨rfl, masked_toNat 0xA0B0#16 0xFFFF#16 0xA0B0#16 (by decide)⟩
theorem rdLdr : Statement (.rdLdr) := fun _ => ⟨rfl, rfl⟩
theorem wrLdr (value : Word) : Statement (.wrLdr value) :=
  fun _ => ⟨rfl, masked_toNat 0xA0D0#16 0xFFFF#16 0xA0D0#16 (by decide)⟩
theorem rdDfr : Statement (.rdDfr) := fun _ => ⟨rfl, rfl⟩
theorem wrDfr (value : Word) : Statement (.wrDfr value) :=
  fun _ => ⟨rfl, masked_toNat 0xA0E0#16 0xFFFF#16 0xA0E0#16 (by decide)⟩
theorem rdSvr : Statement (.rdSvr) := fun _ => ⟨rfl, rfl⟩
theorem wrSvr (value : Word) : Statement (.wrSvr value) :=
  fun _ => ⟨rfl, masked_toNat 0xA0F0#16 0xFFFF#16 0xA0F0#16 (by decide)⟩
theorem rdIsr0 : Statement (.rdIsr0) := fun _ => ⟨rfl, rfl⟩
theorem wrIsr0 (value : Word) : Statement (.wrIsr0 value) :=
  fun _ => ⟨rfl, masked_toNat 0xA100#16 0xFFFF#16 0xA100#16 (by decide)⟩
theorem rdIsr1 : Statement (.rdIsr1) := fun _ => ⟨rfl, rfl⟩
theorem wrIsr1 (value : Word) : Statement (.wrIsr1 value) :=
  fun _ => ⟨rfl, masked_toNat 0xA110#16 0xFFFF#16 0xA110#16 (by decide)⟩
theorem rdIsr2 : Statement (.rdIsr2) := fun _ => ⟨rfl, rfl⟩
theorem wrIsr2 (value : Word) : Statement (.wrIsr2 value) :=
  fun _ => ⟨rfl, masked_toNat 0xA120#16 0xFFFF#16 0xA120#16 (by decide)⟩
theorem rdIsr3 : Statement (.rdIsr3) := fun _ => ⟨rfl, rfl⟩
theorem wrIsr3 (value : Word) : Statement (.wrIsr3 value) :=
  fun _ => ⟨rfl, masked_toNat 0xA130#16 0xFFFF#16 0xA130#16 (by decide)⟩
theorem rdIsr4 : Statement (.rdIsr4) := fun _ => ⟨rfl, rfl⟩
theorem wrIsr4 (value : Word) : Statement (.wrIsr4 value) :=
  fun _ => ⟨rfl, masked_toNat 0xA140#16 0xFFFF#16 0xA140#16 (by decide)⟩
theorem rdIsr5 : Statement (.rdIsr5) := fun _ => ⟨rfl, rfl⟩
theorem wrIsr5 (value : Word) : Statement (.wrIsr5 value) :=
  fun _ => ⟨rfl, masked_toNat 0xA150#16 0xFFFF#16 0xA150#16 (by decide)⟩
theorem rdIsr6 : Statement (.rdIsr6) := fun _ => ⟨rfl, rfl⟩
theorem wrIsr6 (value : Word) : Statement (.wrIsr6 value) :=
  fun _ => ⟨rfl, masked_toNat 0xA160#16 0xFFFF#16 0xA160#16 (by decide)⟩
theorem rdIsr7 : Statement (.rdIsr7) := fun _ => ⟨rfl, rfl⟩
theorem wrIsr7 (value : Word) : Statement (.wrIsr7 value) :=
  fun _ => ⟨rfl, masked_toNat 0xA170#16 0xFFFF#16 0xA170#16 (by decide)⟩
theorem rdTmr0 : Statement (.rdTmr0) := fun _ => ⟨rfl, rfl⟩
theorem wrTmr0 (value : Word) : Statement (.wrTmr0 value) :=
  fun _ => ⟨rfl, masked_toNat 0xA180#16 0xFFFF#16 0xA180#16 (by decide)⟩
theorem rdTmr1 : Statement (.rdTmr1) := fun _ => ⟨rfl, rfl⟩
theorem wrTmr1 (value : Word) : Statement (.wrTmr1 value) :=
  fun _ => ⟨rfl, masked_toNat 0xA190#16 0xFFFF#16 0xA190#16 (by decide)⟩
theorem rdTmr2 : Statement (.rdTmr2) := fun _ => ⟨rfl, rfl⟩
theorem wrTmr2 (value : Word) : Statement (.wrTmr2 value) :=
  fun _ => ⟨rfl, masked_toNat 0xA1A0#16 0xFFFF#16 0xA1A0#16 (by decide)⟩
theorem rdTmr3 : Statement (.rdTmr3) := fun _ => ⟨rfl, rfl⟩
theorem wrTmr3 (value : Word) : Statement (.wrTmr3 value) :=
  fun _ => ⟨rfl, masked_toNat 0xA1B0#16 0xFFFF#16 0xA1B0#16 (by decide)⟩
theorem rdTmr4 : Statement (.rdTmr4) := fun _ => ⟨rfl, rfl⟩
theorem wrTmr4 (value : Word) : Statement (.wrTmr4 value) :=
  fun _ => ⟨rfl, masked_toNat 0xA1C0#16 0xFFFF#16 0xA1C0#16 (by decide)⟩
theorem rdTmr5 : Statement (.rdTmr5) := fun _ => ⟨rfl, rfl⟩
theorem wrTmr5 (value : Word) : Statement (.wrTmr5 value) :=
  fun _ => ⟨rfl, masked_toNat 0xA1D0#16 0xFFFF#16 0xA1D0#16 (by decide)⟩
theorem rdTmr6 : Statement (.rdTmr6) := fun _ => ⟨rfl, rfl⟩
theorem wrTmr6 (value : Word) : Statement (.wrTmr6 value) :=
  fun _ => ⟨rfl, masked_toNat 0xA1E0#16 0xFFFF#16 0xA1E0#16 (by decide)⟩
theorem rdTmr7 : Statement (.rdTmr7) := fun _ => ⟨rfl, rfl⟩
theorem wrTmr7 (value : Word) : Statement (.wrTmr7 value) :=
  fun _ => ⟨rfl, masked_toNat 0xA1F0#16 0xFFFF#16 0xA1F0#16 (by decide)⟩
theorem rdIrr0 : Statement (.rdIrr0) := fun _ => ⟨rfl, rfl⟩
theorem wrIrr0 (value : Word) : Statement (.wrIrr0 value) :=
  fun _ => ⟨rfl, masked_toNat 0xA200#16 0xFFFF#16 0xA200#16 (by decide)⟩
theorem rdIrr1 : Statement (.rdIrr1) := fun _ => ⟨rfl, rfl⟩
theorem wrIrr1 (value : Word) : Statement (.wrIrr1 value) :=
  fun _ => ⟨rfl, masked_toNat 0xA210#16 0xFFFF#16 0xA210#16 (by decide)⟩
theorem rdIrr2 : Statement (.rdIrr2) := fun _ => ⟨rfl, rfl⟩
theorem wrIrr2 (value : Word) : Statement (.wrIrr2 value) :=
  fun _ => ⟨rfl, masked_toNat 0xA220#16 0xFFFF#16 0xA220#16 (by decide)⟩
theorem rdIrr3 : Statement (.rdIrr3) := fun _ => ⟨rfl, rfl⟩
theorem wrIrr3 (value : Word) : Statement (.wrIrr3 value) :=
  fun _ => ⟨rfl, masked_toNat 0xA230#16 0xFFFF#16 0xA230#16 (by decide)⟩
theorem rdIrr4 : Statement (.rdIrr4) := fun _ => ⟨rfl, rfl⟩
theorem wrIrr4 (value : Word) : Statement (.wrIrr4 value) :=
  fun _ => ⟨rfl, masked_toNat 0xA240#16 0xFFFF#16 0xA240#16 (by decide)⟩
theorem rdIrr5 : Statement (.rdIrr5) := fun _ => ⟨rfl, rfl⟩
theorem wrIrr5 (value : Word) : Statement (.wrIrr5 value) :=
  fun _ => ⟨rfl, masked_toNat 0xA250#16 0xFFFF#16 0xA250#16 (by decide)⟩
theorem rdIrr6 : Statement (.rdIrr6) := fun _ => ⟨rfl, rfl⟩
theorem wrIrr6 (value : Word) : Statement (.wrIrr6 value) :=
  fun _ => ⟨rfl, masked_toNat 0xA260#16 0xFFFF#16 0xA260#16 (by decide)⟩
theorem rdIrr7 : Statement (.rdIrr7) := fun _ => ⟨rfl, rfl⟩
theorem wrIrr7 (value : Word) : Statement (.wrIrr7 value) :=
  fun _ => ⟨rfl, masked_toNat 0xA270#16 0xFFFF#16 0xA270#16 (by decide)⟩
theorem rdEsr : Statement (.rdEsr) := fun _ => ⟨rfl, rfl⟩
theorem wrEsr (value : Word) : Statement (.wrEsr value) :=
  fun _ => ⟨rfl, masked_toNat 0xA280#16 0xFFFF#16 0xA280#16 (by decide)⟩
theorem rdLvtCmci : Statement (.rdLvtCmci) := fun _ => ⟨rfl, rfl⟩
theorem wrLvtCmci (value : Word) : Statement (.wrLvtCmci value) :=
  fun _ => ⟨rfl, masked_toNat 0xA2F0#16 0xFFFF#16 0xA2F0#16 (by decide)⟩
theorem rdIcrLo : Statement (.rdIcrLo) := fun _ => ⟨rfl, rfl⟩
theorem wrIcrLo (value : Word) : Statement (.wrIcrLo value) :=
  fun _ => ⟨rfl, masked_toNat 0xA300#16 0xFFFF#16 0xA300#16 (by decide)⟩
theorem rdIcrHi : Statement (.rdIcrHi) := fun _ => ⟨rfl, rfl⟩
theorem wrIcrHi (value : Word) : Statement (.wrIcrHi value) :=
  fun _ => ⟨rfl, masked_toNat 0xA310#16 0xFFFF#16 0xA310#16 (by decide)⟩
theorem rdLvtTimer : Statement (.rdLvtTimer) := fun _ => ⟨rfl, rfl⟩
theorem wrLvtTimer (value : Word) : Statement (.wrLvtTimer value) :=
  fun _ => ⟨rfl, masked_toNat 0xA320#16 0xFFFF#16 0xA320#16 (by decide)⟩
theorem rdLvtThermal : Statement (.rdLvtThermal) := fun _ => ⟨rfl, rfl⟩
theorem wrLvtThermal (value : Word) : Statement (.wrLvtThermal value) :=
  fun _ => ⟨rfl, masked_toNat 0xA330#16 0xFFFF#16 0xA330#16 (by decide)⟩
theorem rdLvtPerfmon : Statement (.rdLvtPerfmon) := fun _ => ⟨rfl, rfl⟩
theorem wrLvtPerfmon (value : Word) : Statement (.wrLvtPerfmon value) :=
  fun _ => ⟨rfl, masked_toNat 0xA340#16 0xFFFF#16 0xA340#16 (by decide)⟩
theorem rdLvtLint0 : Statement (.rdLvtLint0) := fun _ => ⟨rfl, rfl⟩
theorem wrLvtLint0 (value : Word) : Statement (.wrLvtLint0 value) :=
  fun _ => ⟨rfl, masked_toNat 0xA350#16 0xFFFF#16 0xA350#16 (by decide)⟩
theorem rdLvtLint1 : Statement (.rdLvtLint1) := fun _ => ⟨rfl, rfl⟩
theorem wrLvtLint1 (value : Word) : Statement (.wrLvtLint1 value) :=
  fun _ => ⟨rfl, masked_toNat 0xA360#16 0xFFFF#16 0xA360#16 (by decide)⟩
theorem rdLvtError : Statement (.rdLvtError) := fun _ => ⟨rfl, rfl⟩
theorem wrLvtError (value : Word) : Statement (.wrLvtError value) :=
  fun _ => ⟨rfl, masked_toNat 0xA370#16 0xFFFF#16 0xA370#16 (by decide)⟩
theorem rdTicr : Statement (.rdTicr) := fun _ => ⟨rfl, rfl⟩
theorem wrTicr (value : Word) : Statement (.wrTicr value) :=
  fun _ => ⟨rfl, masked_toNat 0xA380#16 0xFFFF#16 0xA380#16 (by decide)⟩
theorem rdTccr : Statement (.rdTccr) := fun _ => ⟨rfl, rfl⟩
theorem wrTccr (value : Word) : Statement (.wrTccr value) :=
  fun _ => ⟨rfl, masked_toNat 0xA390#16 0xFFFF#16 0xA390#16 (by decide)⟩
theorem rdTdcr : Statement (.rdTdcr) := fun _ => ⟨rfl, rfl⟩
theorem wrTdcr (value : Word) : Statement (.wrTdcr value) :=
  fun _ => ⟨rfl, masked_toNat 0xA3E0#16 0xFFFF#16 0xA3E0#16 (by decide)⟩
theorem rdHole (off : BitVec 12) : Statement (.rdHole off) := fun h =>
  ⟨rfl, masked_toNat _ 0xF003#16 0x2000#16 (hole_read off (Bool.and_eq_true_iff.mp h).1)⟩
theorem wrHole (off : BitVec 12) (value : Word) : Statement (.wrHole off value) := fun h =>
  ⟨rfl, masked_toNat _ 0xF003#16 0xA000#16 (hole_write off (Bool.and_eq_true_iff.mp h).1)⟩
theorem rdMalformed (sz : BitVec 3) (off : BitVec 12) : Statement (.rdMalformed sz off) := fun _ => ⟨rfl, masked_toNat _ 0x8000#16 0#16 (header_top false sz off)⟩
theorem wrMalformed (sz : BitVec 3) (off : BitVec 12) (value : BitVec 128) : Statement (.wrMalformed sz off value) := fun _ => ⟨rfl, masked_toNat _ 0x8000#16 0x8000#16 (header_top true sz off)⟩
theorem reset : Statement (.reset) := fun _ => ⟨rfl, rfl⟩
theorem tick (elapsed : BitVec 64) : Statement (.tick elapsed) :=
  fun _ => ⟨rfl, masked_toNat 0x2#8 0xFF#8 0x2#8 (by decide)⟩
theorem tickTsc (now : BitVec 64) : Statement (.tickTsc now) :=
  fun _ => ⟨rfl, masked_toNat 0x3#8 0xFF#8 0x3#8 (by decide)⟩
theorem wrTscdl (deadline : BitVec 64) : Statement (.wrTscdl deadline) :=
  fun _ => ⟨rfl, masked_toNat 0x4#8 0xFF#8 0x4#8 (by decide)⟩
theorem rdTscdl : Statement (.rdTscdl) := fun _ => ⟨rfl, rfl⟩
theorem pendingVector : Statement (.pendingVector) := fun _ => ⟨rfl, rfl⟩
theorem accept : Statement (.accept) := fun _ => ⟨rfl, rfl⟩
theorem deliverIpi (msg : BitVec 40) : Statement (.deliverIpi msg) :=
  fun _ => ⟨rfl, masked_toNat 0x8#8 0xFF#8 0x8#8 (by decide)⟩
theorem lvtFireCmci : Statement (.lvtFireCmci) := fun _ => ⟨rfl, rfl⟩
theorem lvtFireThermal : Statement (.lvtFireThermal) := fun _ => ⟨rfl, rfl⟩
theorem lvtFirePerfmon : Statement (.lvtFirePerfmon) := fun _ => ⟨rfl, rfl⟩
theorem lvtFireLint0 : Statement (.lvtFireLint0) := fun _ => ⟨rfl, rfl⟩
theorem lvtFireLint1 : Statement (.lvtFireLint1) := fun _ => ⟨rfl, rfl⟩
theorem lvtFireError : Statement (.lvtFireError) := fun _ => ⟨rfl, rfl⟩
theorem portReserved (op : BitVec 8) : Statement (.portReserved op) := fun _ => ⟨rfl, Nat.and_zero _⟩

end Sys2Proof.Laws.MatchesRow
end

