-- ==== Sys2Proof/Tests/Slice0.lean ====
section
/-! SUPPORT. Tests of one step each, and the witnesses of the statements. Expected values come from spec/95_test_vectors.md (part and
row in the comment) or from the rule named; the command words are written out from R73, R74 and R77. -/

namespace Sys2Proof.Tests

open Sys2Proof.Machine

/-! ## Helpers -/

/-- The instance of the reset state. -/
def l0 : Lapic := State.reset.self

/-- The reset system of three instances with another `self`. -/
def sys (l : Lapic) : State := { State.reset with self := l }

/-- The state after an operation, if there is one. -/
def after (i : Instr) (s : State) : Option State :=
  match exec i s with
  | .next t => some t
  | _ => none

/-- `self` after an operation on an instance. -/
def lapicAfter (i : Instr) (l : Lapic) : Option Lapic := (after i (sys l)).map (·.self)

/-- Status and data of the response to an operation on an instance. -/
def answer (i : Instr) (l : Lapic) : Option (BitVec 3 × RData) :=
  (after i (sys l)).bind fun t => t.out.resp.map fun r => (r.status, r.rdata)

/-- The bitmap of some vectors. -/
def vecs (vs : List Vec) : Bitmap := vs.foldl Bitmap.set 0#256

/-- The reset system with one operation presented. -/
def presented (cpu : ApicId) (c : Command) : State := { State.reset with queue := [.op cpu c] }

/-! ## WellFormed: one ill-formed term for each check, and the nearest well-formed one -/

theorem test_hole_at_a_register_is_ill_formed : (Instr.rdHole 0x080#12).wellFormed = false := by decide
theorem test_hole_misaligned_is_ill_formed : (Instr.rdHole 0x091#12).wellFormed = false := by decide
theorem test_write_hole_at_a_register_is_ill_formed : (Instr.wrHole 0x300#12 1#32).wellFormed = false := by decide
theorem test_malformed_read_of_four_aligned_bytes_is_ill_formed : (Instr.rdMalformed 2#3 0x080#12).wellFormed = false := by decide
theorem test_malformed_write_of_four_aligned_bytes_is_ill_formed : (Instr.wrMalformed 2#3 0x080#12 0#128).wellFormed = false := by decide
theorem test_malformed_write_with_excess_data_is_ill_formed : (Instr.wrMalformed 1#3 0x080#12 0x10000#128).wellFormed = false := by decide
theorem test_listed_port_id_is_no_reserved_id :
    (Instr.portReserved 0x08#8).wellFormed = false ∧ (Instr.portReserved 0x10#8).wellFormed = false := by decide
theorem test_well_formed_terms : ∀ i ∈ [Instr.rdHole 0x024#12, .wrHole 0x3F0#12 1#32, .rdMalformed 2#3 0x081#12, .rdMalformed 5#3 0x080#12,
    .wrMalformed 1#3 0x080#12 0xFFFF#128, .portReserved 0x09#8, .portReserved 0x16#8], i.wellFormed = true := by decide

/-! ## Decoding: a command word for every constructor, from the offsets of R77, the header of R73 and the ids of R74 -/

theorem test_decode_reads_of_constants_and_priorities : ∀ p ∈ [
    (Command.mmio 0x2020#16 0#128, Instr.rdId), (.mmio 0x2030#16 0#128, .rdVersion), (.mmio 0x2080#16 0#128, .rdTpr),
    (.mmio 0x20A0#16 0#128, .rdPpr), (.mmio 0x20B0#16 0#128, .rdEoi), (.mmio 0x20D0#16 0#128, .rdLdr),
    (.mmio 0x20E0#16 0#128, .rdDfr), (.mmio 0x20F0#16 0#128, .rdSvr)], decode p.1 = p.2 := by decide

theorem test_decode_writes_of_constants_and_priorities : ∀ p ∈ [
    (Command.mmio 0xA020#16 0x89ABCDEF#128, Instr.wrId 0x89ABCDEF#32),
    (.mmio 0xA030#16 0x89ABCDEF#128, .wrVersion 0x89ABCDEF#32), (.mmio 0xA080#16 0x89ABCDEF#128, .wrTpr 0x89ABCDEF#32),
    (.mmio 0xA0A0#16 0x89ABCDEF#128, .wrPpr 0x89ABCDEF#32), (.mmio 0xA0B0#16 0x89ABCDEF#128, .wrEoi 0x89ABCDEF#32),
    (.mmio 0xA0D0#16 0x89ABCDEF#128, .wrLdr 0x89ABCDEF#32), (.mmio 0xA0E0#16 0x89ABCDEF#128, .wrDfr 0x89ABCDEF#32),
    (.mmio 0xA0F0#16 0x89ABCDEF#128, .wrSvr 0x89ABCDEF#32)], decode p.1 = p.2 := by decide

theorem test_decode_reads_of_isr : ∀ p ∈ [
    (Command.mmio 0x2100#16 0#128, Instr.rdIsr0), (.mmio 0x2110#16 0#128, .rdIsr1), (.mmio 0x2120#16 0#128, .rdIsr2),
    (.mmio 0x2130#16 0#128, .rdIsr3), (.mmio 0x2140#16 0#128, .rdIsr4), (.mmio 0x2150#16 0#128, .rdIsr5),
    (.mmio 0x2160#16 0#128, .rdIsr6), (.mmio 0x2170#16 0#128, .rdIsr7)], decode p.1 = p.2 := by decide

theorem test_decode_writes_of_isr : ∀ p ∈ [
    (Command.mmio 0xA100#16 0x89ABCDEF#128, Instr.wrIsr0 0x89ABCDEF#32), (.mmio 0xA110#16 0x89ABCDEF#128, .wrIsr1 0x89ABCDEF#32),
    (.mmio 0xA120#16 0x89ABCDEF#128, .wrIsr2 0x89ABCDEF#32), (.mmio 0xA130#16 0x89ABCDEF#128, .wrIsr3 0x89ABCDEF#32),
    (.mmio 0xA140#16 0x89ABCDEF#128, .wrIsr4 0x89ABCDEF#32), (.mmio 0xA150#16 0x89ABCDEF#128, .wrIsr5 0x89ABCDEF#32),
    (.mmio 0xA160#16 0x89ABCDEF#128, .wrIsr6 0x89ABCDEF#32), (.mmio 0xA170#16 0x89ABCDEF#128, .wrIsr7 0x89ABCDEF#32)], decode p.1 = p.2 := by decide

theorem test_decode_reads_of_tmr : ∀ p ∈ [
    (Command.mmio 0x2180#16 0#128, Instr.rdTmr0), (.mmio 0x2190#16 0#128, .rdTmr1), (.mmio 0x21A0#16 0#128, .rdTmr2),
    (.mmio 0x21B0#16 0#128, .rdTmr3), (.mmio 0x21C0#16 0#128, .rdTmr4), (.mmio 0x21D0#16 0#128, .rdTmr5),
    (.mmio 0x21E0#16 0#128, .rdTmr6), (.mmio 0x21F0#16 0#128, .rdTmr7)], decode p.1 = p.2 := by decide

theorem test_decode_writes_of_tmr : ∀ p ∈ [
    (Command.mmio 0xA180#16 0x89ABCDEF#128, Instr.wrTmr0 0x89ABCDEF#32), (.mmio 0xA190#16 0x89ABCDEF#128, .wrTmr1 0x89ABCDEF#32),
    (.mmio 0xA1A0#16 0x89ABCDEF#128, .wrTmr2 0x89ABCDEF#32), (.mmio 0xA1B0#16 0x89ABCDEF#128, .wrTmr3 0x89ABCDEF#32),
    (.mmio 0xA1C0#16 0x89ABCDEF#128, .wrTmr4 0x89ABCDEF#32), (.mmio 0xA1D0#16 0x89ABCDEF#128, .wrTmr5 0x89ABCDEF#32),
    (.mmio 0xA1E0#16 0x89ABCDEF#128, .wrTmr6 0x89ABCDEF#32), (.mmio 0xA1F0#16 0x89ABCDEF#128, .wrTmr7 0x89ABCDEF#32)], decode p.1 = p.2 := by decide

theorem test_decode_reads_of_irr : ∀ p ∈ [
    (Command.mmio 0x2200#16 0#128, Instr.rdIrr0), (.mmio 0x2210#16 0#128, .rdIrr1), (.mmio 0x2220#16 0#128, .rdIrr2),
    (.mmio 0x2230#16 0#128, .rdIrr3), (.mmio 0x2240#16 0#128, .rdIrr4), (.mmio 0x2250#16 0#128, .rdIrr5),
    (.mmio 0x2260#16 0#128, .rdIrr6), (.mmio 0x2270#16 0#128, .rdIrr7)], decode p.1 = p.2 := by decide

theorem test_decode_writes_of_irr : ∀ p ∈ [
    (Command.mmio 0xA200#16 0x89ABCDEF#128, Instr.wrIrr0 0x89ABCDEF#32), (.mmio 0xA210#16 0x89ABCDEF#128, .wrIrr1 0x89ABCDEF#32),
    (.mmio 0xA220#16 0x89ABCDEF#128, .wrIrr2 0x89ABCDEF#32), (.mmio 0xA230#16 0x89ABCDEF#128, .wrIrr3 0x89ABCDEF#32),
    (.mmio 0xA240#16 0x89ABCDEF#128, .wrIrr4 0x89ABCDEF#32), (.mmio 0xA250#16 0x89ABCDEF#128, .wrIrr5 0x89ABCDEF#32),
    (.mmio 0xA260#16 0x89ABCDEF#128, .wrIrr6 0x89ABCDEF#32), (.mmio 0xA270#16 0x89ABCDEF#128, .wrIrr7 0x89ABCDEF#32)], decode p.1 = p.2 := by decide

theorem test_decode_reads_of_lvt_icr_timer : ∀ p ∈ [
    (Command.mmio 0x2280#16 0#128, Instr.rdEsr), (.mmio 0x22F0#16 0#128, .rdLvtCmci), (.mmio 0x2300#16 0#128, .rdIcrLo),
    (.mmio 0x2310#16 0#128, .rdIcrHi), (.mmio 0x2320#16 0#128, .rdLvtTimer), (.mmio 0x2330#16 0#128, .rdLvtThermal),
    (.mmio 0x2340#16 0#128, .rdLvtPerfmon), (.mmio 0x2350#16 0#128, .rdLvtLint0), (.mmio 0x2360#16 0#128, .rdLvtLint1),
    (.mmio 0x2370#16 0#128, .rdLvtError), (.mmio 0x2380#16 0#128, .rdTicr), (.mmio 0x2390#16 0#128, .rdTccr),
    (.mmio 0x23E0#16 0#128, .rdTdcr)], decode p.1 = p.2 := by decide

theorem test_decode_writes_of_lvt_icr_timer : ∀ p ∈ [
    (Command.mmio 0xA280#16 0x89ABCDEF#128, Instr.wrEsr 0x89ABCDEF#32),
    (.mmio 0xA2F0#16 0x89ABCDEF#128, .wrLvtCmci 0x89ABCDEF#32), (.mmio 0xA300#16 0x89ABCDEF#128, .wrIcrLo 0x89ABCDEF#32),
    (.mmio 0xA310#16 0x89ABCDEF#128, .wrIcrHi 0x89ABCDEF#32), (.mmio 0xA320#16 0x89ABCDEF#128, .wrLvtTimer 0x89ABCDEF#32),
    (.mmio 0xA330#16 0x89ABCDEF#128, .wrLvtThermal 0x89ABCDEF#32), (.mmio 0xA340#16 0x89ABCDEF#128, .wrLvtPerfmon 0x89ABCDEF#32),
    (.mmio 0xA350#16 0x89ABCDEF#128, .wrLvtLint0 0x89ABCDEF#32), (.mmio 0xA360#16 0x89ABCDEF#128, .wrLvtLint1 0x89ABCDEF#32),
    (.mmio 0xA370#16 0x89ABCDEF#128, .wrLvtError 0x89ABCDEF#32), (.mmio 0xA380#16 0x89ABCDEF#128, .wrTicr 0x89ABCDEF#32),
    (.mmio 0xA390#16 0x89ABCDEF#128, .wrTccr 0x89ABCDEF#32), (.mmio 0xA3E0#16 0x89ABCDEF#128, .wrTdcr 0x89ABCDEF#32)], decode p.1 = p.2 := by decide

theorem test_decode_holes_and_malformed : ∀ p ∈ [
    (Command.mmio 0x2024#16 0#128, Instr.rdHole 0x024#12), (.mmio 0x23F0#16 0#128, .rdHole 0x3F0#12),
    (.mmio 0xAFFC#16 0xFFFFFFFF#128, .wrHole 0xFFC#12 0xFFFFFFFF#32), (.mmio 0x0080#16 0#128, .rdMalformed 0#3 0x080#12),
    (.mmio 0x1090#16 0#128, .rdMalformed 1#3 0x090#12), (.mmio 0x3300#16 0#128, .rdMalformed 3#3 0x300#12),
    (.mmio 0x5080#16 0#128, .rdMalformed 5#3 0x080#12), (.mmio 0x2081#16 0#128, .rdMalformed 2#3 0x081#12),
    (.mmio 0x8080#16 0x20#128, .wrMalformed 0#3 0x080#12 0x20#128),
    (.mmio 0xB300#16 0x0123456789ABCDEF#128, .wrMalformed 3#3 0x300#12 0x0123456789ABCDEF#128),
    (.mmio 0xA302#16 0x30#128, .wrMalformed 2#3 0x302#12 0x30#128)], decode p.1 = p.2 := by decide

theorem test_decode_port_operations : ∀ p ∈ [
    (Command.side 0x01#8 0#64, Instr.reset), (.side 0x02#8 0xFFFFFFFFFFFFFFFF#64, .tick 0xFFFFFFFFFFFFFFFF#64),
    (.side 0x03#8 0x1000#64, .tickTsc 0x1000#64), (.side 0x04#8 0x1000#64, .wrTscdl 0x1000#64), (.side 0x05#8 0#64, .rdTscdl),
    (.side 0x06#8 0#64, .pendingVector), (.side 0x07#8 0#64, .accept), (.side 0x08#8 0xFF000080C8#64, .deliverIpi 0xFF000080C8#40),
    (.side 0x10#8 0#64, .lvtFireCmci), (.side 0x11#8 0#64, .lvtFireThermal), (.side 0x12#8 0#64, .lvtFirePerfmon),
    (.side 0x13#8 0#64, .lvtFireLint0), (.side 0x14#8 0#64, .lvtFireLint1), (.side 0x15#8 0#64, .lvtFireError),
    (.side 0x00#8 0#64, .portReserved 0x00#8), (.side 0x09#8 0#64, .portReserved 0x09#8), (.side 0x0F#8 0#64, .portReserved 0x0F#8),
    (.side 0x16#8 0#64, .portReserved 0x16#8), (.side 0xFF#8 0#64, .portReserved 0xFF#8)], decode p.1 = p.2 := by decide

/-- R88: the expansions of EOI, SEND and SET_DIVIDE. -/
theorem test_pseudo_operations : pseudoEoi = [.wrEoi 0#32] ∧ pseudoSend 0x01000000#32 0x30#32 = [.wrIcrHi 0x01000000#32, .wrIcrLo 0x30#32] ∧
    pseudoSetDivide 128 = some [.wrTdcr 0xA#32] ∧ pseudoSetDivide 3 = none := by decide

/-! ## One step: the register bank -/

/-- 95 part 2.1: the value read after writing all ones. -/
theorem test_all_ones_then_read : ∀ p ∈ [(Reg.tpr, 0x000000FF#32), (.eoi, 0x00000000#32), (.ldr, 0xFF000000#32),
    (.dfr, 0xF0000000#32), (.svr, 0x000001FF#32), (.esr, 0x00000000#32), (.lvtCmci, 0x000104FF#32), (.icrHi, 0xFF000000#32),
    (.lvtTimer, 0x000500FF#32), (.lvtThermal, 0x000104FF#32), (.lvtPerfmon, 0x000104FF#32), (.lvtLint0, 0x0001A7FF#32),
    (.lvtLint1, 0x0001A7FF#32), (.lvtError, 0x000100FF#32), (.ticr, 0xFFFFFFFF#32), (.tccr, 0x00000000#32), (.tdcr, 0x0000000B#32)],
    (lapicAfter (wrOf p.1 0xFFFFFFFF#32) l0).map (·.readReg p.1) = some p.2 := by decide

/-- 95 part 2.1: zero written to the registers whose reset value is not zero, and to the read-only ones. -/
theorem test_zero_then_read : ∀ p ∈ [(Reg.id, 0x00000000#32), (.version, 0x00060015#32), (.dfr, 0#32), (.svr, 0#32), (.lvtCmci, 0#32),
    (.lvtTimer, 0#32), (.lvtThermal, 0#32), (.lvtPerfmon, 0#32), (.lvtLint0, 0#32), (.lvtLint1, 0#32), (.lvtError, 0#32),
    (.isr 0, 0#32), (.tmr 7, 0#32), (.irr 2, 0#32)],
    (lapicAfter (wrOf p.1 0#32) l0).map (·.readReg p.1) = some p.2 := by decide

/-- 95 part 2.1: the all-ones write of ICR_LO in a system of one instance answers OK and sends nothing. -/
theorem test_all_ones_icr_low_alone :
    (after (.wrIcrLo 0xFFFFFFFF#32) { State.reset with peers := [] }).map (fun t => (t.self.icrLo, t.out)) =
      some (0x000CCFFF#32, { resp := some { error := none, rdata := .none }, ctl := [], ipi := [] }) := by decide

/-- R21, R22: ID is APIC_ID in bits 31:24, VERSION the parameter. -/
theorem test_constant_reads : answer .rdId { l0 with par := { apicId := 2#8 } } = some (0#3, .word 0x02000000#32) ∧
    answer .rdVersion l0 = some (0#3, .word 0x00060015#32) := by decide

/-- 95 part 2.1, "reads have no side effects": IRR = 0x41, ISR = 0x52, ESR = 0x24. -/
def readable : Lapic := { l0 with irr := vecs [0x41#8], isr := vecs [0x52#8], esr := 0x24#32 }
theorem test_reads_of_a_busy_instance : ∀ p ∈ [(Instr.rdEoi, 0x00000000#32), (.rdEsr, 0x00000024#32), (.rdIrr2, 0x00000002#32),
    (.rdIsr2, 0x00040000#32), (.rdPpr, 0x00000050#32), (.rdIrr0, 0#32), (.rdIsr3, 0#32), (.rdTmr2, 0#32)],
    answer p.1 readable = some (0#3, .word p.2) ∧ lapicAfter p.1 readable = some readable := by decide +kernel

/-- 95 parts 2.1 and 2.4: the first and the last bank register. -/
theorem test_bank_ends : answer .rdIrr0 { l0 with irr := vecs [0x10#8] } = some (0#3, .word 0x00010000#32) ∧
    answer .rdIrr7 { l0 with irr := vecs [0xFF#8] } = some (0#3, .word 0x80000000#32) ∧
    answer .rdTmr7 { l0 with tmr := vecs [0xFF#8] } = some (0#3, .word 0x80000000#32) ∧
    answer .rdIsr6 { l0 with isr := vecs [0xC8#8] } = some (0#3, .word 0x00000100#32) := by decide +kernel

/-- 95 part 2.4: the Processor Priority for TPR and ISR. -/
theorem test_processor_priority : ∀ p ∈ [(0x00#32, ([] : List Vec), 0x00#8), (0x35#32, [0x52#8], 0x50#8), (0x5A#32, [0x52#8], 0x5A#8),
    (0x20#32, [0x31#8, 0x7F#8], 0x70#8), (0xFF#32, [], 0xFF#8), (0x0F#32, [0x10#8], 0x10#8), (0x4F#32, [0x40#8], 0x4F#8)],
    ({ l0 with tpr := p.1, isr := vecs p.2.1 } : Lapic).ppr = p.2.2 := by decide +kernel

/-- 95 part 2.1: a hole reads zero, a malformed access answers status 1, with all ones for a read. -/
theorem test_holes_and_malformed : answer (.rdHole 0x024#12) l0 = some (0#3, .word 0#32) ∧
    answer (.wrHole 0x3A0#12 0xFFFFFFFF#32) l0 = some (0#3, .none) ∧
    answer (.rdMalformed 2#3 0x081#12) l0 = some (1#3, .word 0xFFFFFFFF#32) ∧
    answer (.wrMalformed 1#3 0x0B0#12 0#128) { l0 with isr := vecs [0xC8#8] } = some (1#3, .none) ∧
    answer (.portReserved 0x20#8) l0 = some (1#3, .none) := by decide

/-- 95 part 2.1: a malformed write of EOI performs no EOI. -/
theorem test_malformed_eoi_write_retires_nothing :
    (lapicAfter (.wrMalformed 1#3 0x0B0#12 0#128) { l0 with isr := vecs [0xC8#8] }).map (·.isr) = some (vecs [0xC8#8]) := by decide

/-- R55, R143: RESET of a busy instance. -/
theorem test_reset : lapicAfter .reset { readable with tpr := 0x35#32, ticr := 9#32, tccr := 3#32, presc := 1 } = some l0 := by decide

/-! ## One step: LVT -/

/-- 95 part 2.2: mode coercion, written value `dm << 8 | 0x31` for dm = 0 to 7; each list is the values read back. -/
def dms : List Word := [0x0031#32, 0x0131#32, 0x0231#32, 0x0331#32, 0x0431#32, 0x0531#32, 0x0631#32, 0x0731#32]
def basicRead : List (Option Word) := [0x0031#32, 0x0031#32, 0x0231#32, 0x0231#32, 0x0431#32, 0x0431#32, 0x0431#32, 0x0431#32].map some
def lintRead : List (Option Word) := [0x0031#32, 0x0031#32, 0x0231#32, 0x0231#32, 0x0431#32, 0x0531#32, 0x0531#32, 0x0731#32].map some
theorem test_coercion_cmci : (dms.map fun v => (lapicAfter (.wrLvtCmci v) l0).map (·.lvtCmci)) = basicRead := by decide +kernel
theorem test_coercion_thermal : (dms.map fun v => (lapicAfter (.wrLvtThermal v) l0).map (·.lvtThermal)) = basicRead := by decide +kernel
theorem test_coercion_perfmon : (dms.map fun v => (lapicAfter (.wrLvtPerfmon v) l0).map (·.lvtPerfmon)) = basicRead := by decide +kernel
theorem test_coercion_lint0 : (dms.map fun v => (lapicAfter (.wrLvtLint0 v) l0).map (·.lvtLint0)) = lintRead := by decide +kernel
theorem test_coercion_lint1 : (dms.map fun v => (lapicAfter (.wrLvtLint1 v) l0).map (·.lvtLint1)) = lintRead := by decide +kernel

/-- 95 part 2.2: LVT_TIMER and LVT_ERROR have no delivery mode; the timer mode pattern 3 becomes 2. -/
theorem test_no_delivery_mode : (lapicAfter (.wrLvtTimer 0x0731#32) l0).map (·.lvtTimer) = some 0x31#32 ∧
    (lapicAfter (.wrLvtError 0x0731#32) l0).map (·.lvtError) = some 0x31#32 ∧
    (lapicAfter (.wrLvtTimer 0x00060040#32) l0).map (·.lvtTimer) = some 0x00040040#32 := by decide

/-- 95 part 2.2: remote_irr is not writable and survives a write. -/
theorem test_remote_irr_is_read_only : (lapicAfter (.wrLvtLint0 0x4041#32) l0).map (·.lvtLint0) = some 0x00000041#32 ∧
    (lapicAfter (.wrLvtLint1 0x8042#32) { l0 with lvtLint1 := 0xC041#32 }).map (·.lvtLint1) = some 0x0000C042#32 := by decide

/-- 95 part 2.2: a Fixed local event is posted, a masked one dropped, one below 16 logged, one forwarded. -/
theorem test_fire_cmci_posts : (lapicAfter .lvtFireCmci { l0 with lvtCmci := 0x33#32 }).map (fun l => (l.irr, l.tmr)) =
    some (vecs [0x33#8], vecs []) := by decide
theorem test_fire_thermal_masked : answer .lvtFireThermal l0 = some (0#3, .none) ∧ lapicAfter .lvtFireThermal l0 = some l0 := by decide
theorem test_fire_perfmon_nmi : (after .lvtFirePerfmon (sys { l0 with lvtPerfmon := 0x400#32 })).map (·.out.ctl) =
    some [(0#8, { kind := .nmi, vector := 0#8, level := .assert, trigger := .edge, origin := .lvt .perfmon })] := by decide
theorem test_fire_lint0_level : (lapicAfter .lvtFireLint0 { l0 with lvtLint0 := 0x8041#32 }).map (fun l => (l.irr, l.tmr, l.lvtLint0)) =
    some (vecs [0x41#8], vecs [0x41#8], 0xC041#32) := by decide
theorem test_fire_lint0_already_pending : (lapicAfter .lvtFireLint0 { l0 with lvtLint0 := 0x8041#32, irr := vecs [0x41#8] }).map
    (fun l => (l.tmr, l.lvtLint0)) = some (vecs [], 0x8041#32) := by decide
theorem test_fire_lint1_low_vector : answer .lvtFireLint1 { l0 with lvtLint1 := 5#32 } = some (2#3, .none) ∧
    (lapicAfter .lvtFireLint1 { l0 with lvtLint1 := 5#32 }).map (fun l => (l.irr, l.esr)) = some (0#256, 0x40#32) := by decide
theorem test_fire_error_posts : (lapicAfter .lvtFireError { l0 with lvtError := 0xFE#32 }).map (·.irr) = some (vecs [0xFE#8]) := by decide

/-! ## One step: timer (95 part 2.3) -/

/-- T11 (a): Periodic, divide 128, count 1000 after TICK 5. -/
def t11 : Lapic := { l0 with lvtTimer := 0x20040#32, tdcr := 0xA#32, ticr := 1000#32, tccr := 1000#32, presc := 5 }
theorem test_tick_large : (lapicAfter (.tick 1000000#64) t11).map (fun l => (l.tccr, l.presc, l.irr)) =
    some (188#32, 69, vecs [0x40#8]) := by decide +kernel

/-- T11 (d): OneShot, the largest argument. -/
theorem test_tick_largest : (lapicAfter (.tick 0xFFFFFFFFFFFFFFFF#64) { t11 with lvtTimer := 0x40#32 }).map
    (fun l => (l.tccr, l.presc, l.irr)) = some (0#32, 0, vecs [0x40#8]) := by decide +kernel

/-- T6: a divide change clears the prescaler and keeps the count. -/
theorem test_divide_change : (lapicAfter (.wrTdcr 0xB#32) { t11 with tccr := 9#32, presc := 2 }).map (fun l => (l.tccr, l.presc)) =
    some (9#32, 0) := by decide

/-- T5 and T9 (c): an initial count arms at once, but not in TscDeadline mode. -/
theorem test_initial_count : (lapicAfter (.wrTicr 4#32) { t11 with tccr := 3#32 }).map (fun l => (l.ticr, l.tccr)) = some (4#32, 4#32) ∧
    (lapicAfter (.wrTicr 9#32) { l0 with lvtTimer := 0x40050#32 }).map (fun l => (l.ticr, l.tccr)) = some (9#32, 0#32) := by decide

/-- T8: a mode change disarms and keeps TICR; a mask change does neither. -/
theorem test_mode_change : (lapicAfter (.wrLvtTimer 0x40#32) t11).map (fun l => (l.ticr, l.tccr)) = some (1000#32, 0#32) ∧
    (lapicAfter (.wrLvtTimer 0x30040#32) t11).map (fun l => (l.ticr, l.tccr)) = some (1000#32, 1000#32) := by decide

/-- T9 (a), (f) and part 1.10: the deadline. -/
def armed : Lapic := { l0 with lvtTimer := 0x40050#32, tscdl := 0x1000#64 }
theorem test_deadline_write : (lapicAfter (.wrTscdl 0x1000#64) { armed with tscdl := 0#64 }).map (·.tscdl) = some 0x1000#64 ∧
    (lapicAfter (.wrTscdl 0x1000#64) l0).map (·.tscdl) = some 0#64 := by decide
theorem test_deadline_tick : lapicAfter (.tickTsc 0xFFF#64) armed = some armed ∧
    (lapicAfter (.tickTsc 0x1000#64) armed).map (fun l => (l.irr, l.tscdl)) = some (vecs [0x50#8], 0#64) := by decide
theorem test_deadline_read : answer .rdTscdl armed = some (0#3, .dword 0x1000#64) := by decide

/-! ## One step: delivery and IPIs -/

/-- 95 part 1.6: 200 = 0xC8 is offered at TPR 0xBF, not at 0xC0. -/
theorem test_pending_vector : answer .pendingVector { l0 with irr := vecs [0xC8#8], tpr := 0xBF#32 } = some (0#3, .vec 0x1C8#9) ∧
    answer .pendingVector { l0 with irr := vecs [0xC8#8], tpr := 0xC0#32 } = some (0#3, .vec 0x000#9) := by decide +kernel

/-- 95 part 1.7 and part 2.4: acceptance and the spurious vector. -/
theorem test_accept : answer .accept { l0 with irr := vecs [0xC8#8] } = some (0#3, .vec 0x1C8#9) ∧
    (lapicAfter .accept { l0 with irr := vecs [0xC8#8] }).map (fun l => (l.irr, l.isr)) = some (vecs [], vecs [0xC8#8]) := by decide +kernel
theorem test_accept_spurious : answer .accept { l0 with svr := 0x105#32 } = some (0#3, .vec 0x005#9) := by decide +kernel

/-- 95 parts 1.7 and 2.2: EOI. -/
theorem test_eoi_level : (lapicAfter (.wrEoi 7#32) { l0 with isr := vecs [0x41#8], tmr := vecs [0x41#8], lvtLint0 := 0xC041#32, lvtLint1 := 0xC042#32 }).map
    (fun l => (l.isr, l.tmr, l.lvtLint0, l.lvtLint1)) = some (vecs [], vecs [0x41#8], 0x8041#32, 0xC042#32) := by decide +kernel
theorem test_eoi_empty : lapicAfter (.wrEoi 0#32) l0 = some l0 := by decide +kernel

/-- 95 part 2.4: posting, the first legal vector, the last illegal one, and a second post of another trigger mode. -/
theorem test_deliver_ipi : (lapicAfter (.deliverIpi 0x80FF#40) l0).map (fun l => (l.irr, l.tmr)) = some (vecs [0xFF#8], vecs [0xFF#8]) ∧
    (lapicAfter (.deliverIpi 0x80C8#40) { l0 with irr := vecs [0xC8#8] }).map (fun l => (l.irr, l.tmr)) = some (vecs [0xC8#8], vecs []) := by decide
theorem test_deliver_ipi_low_vector : answer (.deliverIpi 0x0F#40) l0 = some (2#3, .none) ∧
    (lapicAfter (.deliverIpi 0x0F#40) l0).map (·.esr) = some 0x40#32 := by decide

/-- 95 parts 1.8 and 1.9: all but self, and a vector below 16. -/
theorem test_send_all_but_self : (after (.wrIcrLo 0xC0030#32) State.reset).map (fun t => (t.self.irr, t.self.icrLo, t.peers.map (·.irr))) =
    some (0#256, 0xC0030#32, [vecs [0x30#8], vecs [0x30#8]]) := by decide
theorem test_send_low_vector : (after (.wrIcrLo 5#32) (sys { l0 with icrHi := 0x01000000#32 })).map
    (fun t => (t.self.esr, t.self.icrLo, t.peers)) = some (0x20#32, 5#32, State.reset.peers) := by decide
/-- R121: the high half alone sends nothing. -/
theorem test_icr_high_sends_nothing : (after (.wrIcrHi 0x01000000#32) State.reset).map (fun t => (t.self.icrHi, t.peers, t.out.ipi)) =
    some (0x01000000#32, State.reset.peers, []) := by decide

/-- R184: the set of a logical send is no snapshot. Instance 0 has looked at 1 (LDR 0x01, flat); 1 then writes LDR 0x02 and 2 writes
LDR 0x01, and the send to 0x01 reaches both. Without the look it reaches 2 alone. -/
def moving (looks : List Look) : State := { State.reset with
  self := { l0 with icrHi := 0x01000000#32 }
  peers := [{ l0 with par := { apicId := 1#8 }, ldr := 0x02000000#32 }, { l0 with par := { apicId := 2#8 }, ldr := 0x01000000#32 }]
  queue := [.op 0#8 (.mmio 0xA300#16 0x840#128)]
  looks := looks }
def reached (s : State) : Option (List ApicId) :=
  match step s with
  | .next t => some (t.out.ipi.map (·.target))
  | _ => none
theorem test_logical_send_is_no_snapshot : reached (moving [{ sender := 0#8, target := 1#8, ldr := 0x01000000#32, dfr := 0xF0000000#32 }]) =
    some [1#8, 2#8] ∧ reached (moving []) = some [2#8] := by decide
theorem test_look : (match step { moving [] with queue := [.look 0#8 1#8] } with
    | .next t => t.looks == [{ sender := 0#8, target := 1#8, ldr := 0x02000000#32, dfr := 0xF0000000#32 }] && t.seen == []
    | _ => false) = true := by decide
/-- R66, R103: instance 1 sends an IPI to 0 after 0 has looked at 1 and at 2, so 0's next send comes after whatever 1 wrote before and
reads anew; what 2 has read stays. -/
theorem test_delivery_uses_up_looks : (match step { moving [{ sender := 0#8, target := 1#8, ldr := 0x01000000#32, dfr := 0xF0000000#32 },
      { sender := 2#8, target := 1#8, ldr := 0x01000000#32, dfr := 0xF0000000#32 },
      { sender := 0#8, target := 2#8, ldr := 0x01000000#32, dfr := 0xF0000000#32 }] with
        queue := [.op 1#8 (.mmio 0xA300#16 0x40#128)] } with
    | .next t => t.looks.map (·.sender) == [2#8] && t.out.ipi.map (·.target) == [0#8]
    | _ => false) = true := by decide

/-- R66, R187: a step performs the presented operation on the instance named. -/
theorem test_step_on_a_peer : (match step (presented 2#8 (.side 0x08#8 0xC8#64)) with
    | .next t => t.self.par.apicId == 2#8 && t.self.irr == vecs [0xC8#8] && t.peers.all (fun p => p.irr == 0#256)
    | _ => false) = true := by decide

/-! ## Witnesses: for each statement with hypotheses, states and operands that meet them, one for each clause -/

theorem mem_allRegs (r : Reg) : r ∈ allRegs := by
  cases r <;> first | decide | (rename_i k; revert k; decide)

theorem reset_reservedZero : l0.ReservedZero := fun r => by
  have h : ∀ r ∈ allRegs, l0.readReg r &&& ~~~readableBits r = 0#32 := by decide +kernel
  exact h r (mem_allRegs r)

theorem reset_modesLegal : l0.ModesLegal := by
  refine ⟨fun src => ?_, by decide, by decide⟩
  cases src <;> decide

theorem reset_noLowVector : l0.NoLowVector := fun v _ => by simp [l0, State.reset, State.boot, Lapic.reset]

theorem reset_onePerClass : l0.OneInServicePerClass := fun v w h => by simp [l0, State.reset, State.boot, Lapic.reset] at h

/-- The greatest of some vectors, in the form the statements on EOI and PPR use. -/
theorem vecs_greatest : Bitmap.has (vecs [0x31#8, 0x82#8]) 0x82#8 = true ∧
    ∀ w : Vec, Bitmap.has (vecs [0x31#8, 0x82#8]) w = true → w ≤ 0x82#8 := by
  refine ⟨by decide, fun w h => ?_⟩
  simp only [vecs, List.foldl_cons, List.foldl_nil, has_set, has_zero, Bool.or_false, Bool.or_eq_true, decide_eq_true_eq] at h
  rcases h with rfl | rfl <;> decide

/-- A state after `exec` exists. -/
theorem nexts {i : Instr} {s : State} (h : (after i s).isSome = true) : ∃ t, exec i s = .next t := by
  unfold after at h
  split at h
  · exact ⟨_, by assumption⟩
  · cases h

theorem witness_StepPerformsThePresentedOperation :
    (presented 0#8 (.side 0x07#8 0#64)).DistinctIds ∧
    (presented 0#8 (.side 0x07#8 0#64)).queue = .op 0#8 (.side 0x07#8 0#64) :: [] ∧
    0#8 = (presented 0#8 (.side 0x07#8 0#64)).self.par.apicId ∧
    (∃ p ∈ (presented 2#8 (.side 0x07#8 0#64)).peers, p.par.apicId = 2#8) ∧
    3#8 ∉ (presented 3#8 (.side 0x07#8 0#64)).vcpus.map (·.par.apicId) ∧ State.reset.queue = [] ∧
    (moving []).DistinctIds ∧ (∀ id ∈ [0#8, 1#8, 2#8], id ∈ (moving []).vcpus.map (·.par.apicId)) ∧ 7#8 ∉ (moving []).vcpus.map (·.par.apicId) := by decide

theorem witness_DecodeInvertsEncode : (Instr.wrMalformed 4#3 0xFFF#12 (BitVec.allOnes 128)).wellFormed = true ∧
    (Instr.rdHole 0xFFC#12).wellFormed = true ∧ (Instr.portReserved 0x00#8).wellFormed = true := by decide

theorem witness_OffsetSelectsItsRegisterExactly : bits 0x104#12 0 2 = 0#2 ∧ (∀ r, regOffset r ≠ 0x104#12) ∧
    bits 0xFFC#12 0 2 = 0#2 ∧ ∀ r, regOffset r ≠ 0xFFC#12 := by
  have h : ∀ r ∈ allRegs, regOffset r ≠ 0x104#12 ∧ regOffset r ≠ 0xFFC#12 := by decide
  exact ⟨by decide, fun r => (h r (mem_allRegs r)).1, by decide, fun r => (h r (mem_allRegs r)).2⟩

theorem witness_IdentifierReadNeverChanges : (∃ t, exec .reset (sys readable) = .next t) ∧ ∃ t, exec (.wrId 7#32) (sys readable) = .next t :=
  ⟨nexts (by decide), nexts (by decide)⟩

theorem witness_PprReadIsMaximumOfTaskAndServiceClass : (sys l0).self.isr = 0#256 ∧
    (∃ v : Vec, Bitmap.has (sys { l0 with isr := vecs [0x31#8, 0x82#8], tpr := 0x80#32 }).self.isr v = true ∧
      (∀ w, Bitmap.has (sys { l0 with isr := vecs [0x31#8, 0x82#8], tpr := 0x80#32 }).self.isr w = true → w ≤ v) ∧ cls v ≤ bits 0x80#32 4 4) ∧
    ∃ v : Vec, Bitmap.has (sys { l0 with isr := vecs [0x31#8, 0x82#8], tpr := 0x7F#32 }).self.isr v = true ∧
      (∀ w, Bitmap.has (sys { l0 with isr := vecs [0x31#8, 0x82#8], tpr := 0x7F#32 }).self.isr w = true → w ≤ v) ∧ ¬cls v ≤ bits 0x7F#32 4 4 :=
  ⟨rfl, ⟨_, vecs_greatest.1, vecs_greatest.2, by decide⟩, ⟨_, vecs_greatest.1, vecs_greatest.2, by decide⟩⟩

theorem witness_ReadsChangeNoState : ∀ i ∈ [Instr.rdPpr, .rdIrr7, .rdHole 0x3F0#12, .rdMalformed 3#3 0x300#12, .rdTscdl, .pendingVector],
    Instr.IsRead i := by
  simp only [List.forall_mem_cons, List.not_mem_nil, false_implies, implies_true, and_true]
  exact ⟨.inl ⟨.ppr, rfl⟩, .inl ⟨.irr 7, rfl⟩, .inr (.inl ⟨_, rfl⟩), .inr (.inr (.inl ⟨_, _, rfl⟩)), .inr (.inr (.inr (.inl rfl))),
    .inr (.inr (.inr (.inr rfl)))⟩

theorem witness_WritesOfReadOnlyRegistersAreDropped : ∀ r ∈ [Reg.id, .tccr, .isr 0, .tmr 7, .irr 7],
    r ∈ [Reg.id, .version, .ppr, .esr, .tccr] ++ bankRegs .isr ++ bankRegs .tmr ++ bankRegs .irr := by decide

theorem witness_WriteThenReadReturnsMaskedValue : (sys l0).self.ReservedZero ∧ ModeFieldsLegal .lvtTimer 0xFFFDFFFF#32 ∧
    ModeFieldsLegal .icrLo 0x00000700#32 ∧ ModeFieldsLegal .lvtLint0 0xFFFFFDFF#32 ∧ ModeFieldsLegal .lvtCmci 0x00000400#32 ∧
    ModeFieldsLegal .tpr 0xFFFFFFFF#32 := by
  refine ⟨reset_reservedZero, ?_, ?_, ?_, ?_, trivial⟩ <;> (unfold ModeFieldsLegal; decide)

theorem witness_HolesReadTheConstantAndDropWrites : (∃ t, exec (.wrHole 0x024#12 1#32) State.reset = .next t) ∧
    (bits 0x2E0#12 0 4 = 0#4 ∧ 0x290#12 ≤ 0x2E0#12 ∧ 0x2E0#12 ≤ 0x2E0#12) ∧
    (bits 0x3A0#12 0 4 = 0#4 ∧ 0x3A0#12 ≤ 0x3A0#12 ∧ 0x3A0#12 ≤ 0x3D0#12) ∧
    (bits 0xFF0#12 0 4 = 0#4 ∧ 0x3F0#12 ≤ 0xFF0#12) := ⟨nexts (by decide), by decide⟩

theorem witness_MalformedAccessesAnswerAnErrorAndChangeNothing :
    ((bits 0x2081#16 12 3 ≠ 2#3 ∨ bits 0x2081#16 0 2 ≠ 0#2) ∧ (0x2081#16).getLsbD 15 = false) ∧
    ((bits 0x9080#16 12 3 ≠ 2#3 ∨ bits 0x9080#16 0 2 ≠ 0#2) ∧ (0x9080#16).getLsbD 15 = true) := by decide

theorem witness_ReservedPortIdsAreRefused : ∀ op ∈ [0x00#8, 0x09#8, 0x0F#8, 0x16#8, 0xFF#8],
    ¬(0x01#8 ≤ op ∧ op ≤ 0x08#8) ∧ ¬(0x10#8 ≤ op ∧ op ≤ 0x15#8) := by decide

theorem witness_CoercionIsGreatestLegalValueNotAbove : 0#3 ∈ legalLint ∧ 7#3 ∈ legalLint ∧ 6#3 ∉ legalLint := by decide

theorem witness_ResetStateIsArmedForNothing : 16 ≤ (16#8 : Vec).toNat ∧ 16 ≤ (255#8 : Vec).toNat := by decide

theorem witness_LvtEncodeInvertsDecode : ∀ p ∈ [(LvtSource.timer, Reg.lvtTimer, 0x000500FF#32), (.lint0, .lvtLint0, 0x0001E7FF#32),
    (.thermal, .lvtThermal, 0x000104FF#32), (.error, .lvtError, 0x000100FF#32)],
    p.2.2 &&& ~~~readableBits p.2.1 = 0#32 ∧ bits p.2.2 8 3 ∈ legalModes p.1 ∧ bits p.2.2 17 2 ∈ legalTimerMode := by decide

/-- The hypotheses of the local event statement for a LINT0 register: the legal mode, mask, vector and IRR bit of each clause. -/
theorem witness_LocalEventIsDroppedPostedOrForwarded :
    ((sys l0).self.lvt .lint0 = 0x00010000#32 ∧ bits 0x00010000#32 8 3 ∈ legalModes .lint0 ∧ (0x00010000#32).getLsbD 16 = true) ∧
    (bits 0x00008010#32 8 3 ∈ legalModes .lint0 ∧ (0x00008010#32).getLsbD 16 = false ∧ bits 0x00008010#32 8 3 = 0#3 ∧
      16 ≤ (bits 0x00008010#32 0 8 : Vec).toNat ∧ Bitmap.has l0.irr (bits 0x00008010#32 0 8) = false) ∧
    Bitmap.has (vecs [0x10#8]) (bits 0x00008010#32 0 8) = true ∧
    (bits 0x0000000F#32 8 3 ∈ legalModes .lint0 ∧ (0x0000000F#32).getLsbD 16 = false ∧ bits 0x0000000F#32 8 3 = 0#3 ∧
      (bits 0x0000000F#32 0 8 : Vec).toNat < 16) := by decide

theorem witness_LocalEventForwarded : bits 0x00000700#32 8 3 ∈ legalModes .lint0 ∧ (0x00000700#32).getLsbD 16 = false ∧
    (bits 0x00000700#32 8 3, CtlKind.extInt) ∈ [(2#3, CtlKind.smi), (4#3, .nmi), (5#3, .init), (7#3, .extInt)] ∧
    bits 0x00000200#32 8 3 ∈ legalModes .cmci ∧
    (bits 0x00000200#32 8 3, CtlKind.smi) ∈ [(2#3, CtlKind.smi), (4#3, .nmi), (5#3, .init), (7#3, .extInt)] := by decide

/-- Timer instances in each mode: stopped, one step from the divide value, and below it. -/
def tscMode : Lapic := armed
def lastCount (mode : Word) : Lapic := { l0 with lvtTimer := mode ||| 0x40#32, tdcr := 0xA#32, ticr := 3#32, tccr := 1#32, presc := 127 }

theorem witness_TimerRegisterWrites : (sys l0).self.mode ≠ .tscDeadline ∧ (sys tscMode).self.mode = .tscDeadline := by decide

theorem witness_LvtTimerWriteDisarmsExactlyOnModeChange :
    (lapicAfter (.wrLvtTimer 0x00020041#32) (lastCount 0x20000#32)).map (fun l => bits l.lvtTimer 17 2) = some (bits (lastCount 0x20000#32).lvtTimer 17 2) ∧
    (lapicAfter (.wrLvtTimer 0x00000041#32) (lastCount 0x20000#32)).map (fun l => bits l.lvtTimer 17 2) ≠ some (bits (lastCount 0x20000#32).lvtTimer 17 2) := by
  decide

theorem witness_PostAndExpirySetRejectOrAbsorb : (15#8 : Vec).toNat < 16 ∧ 16 ≤ (16#8 : Vec).toNat ∧
    Bitmap.has l0.irr 16#8 = false ∧ Bitmap.has ({ l0 with irr := vecs [16#8] } : Lapic).irr 16#8 = true ∧
    l0.lvtTimer.getLsbD 16 = true ∧ ({ l0 with lvtTimer := 0x10#32 } : Lapic).lvtTimer.getLsbD 16 = false ∧
    16 ≤ (bits 0x10#32 0 8 : Vec).toNat ∧ (bits 0x0F#32 0 8 : Vec).toNat < 16 ∧
    ({ l0 with lvtTimer := 0x0F#32 } : Lapic).lvtTimer.getLsbD 16 = false := by decide

theorem witness_OneTickCountsOrExpires : tscMode.mode = .tscDeadline ∧ l0.tccr = 0#32 ∧
    (let l := { lastCount 0#32 with presc := 126 }; l.mode ≠ .tscDeadline ∧ l.tccr ≠ 0#32 ∧ l.presc + 1 < l.divideValue) ∧
    (let l := { lastCount 0#32 with tccr := 2#32 }; l.mode ≠ .tscDeadline ∧ l.presc + 1 = l.divideValue ∧ 1#32 < l.tccr) ∧
    (let l := lastCount 0#32; l.mode = .oneShot ∧ l.presc + 1 = l.divideValue ∧ l.tccr = 1#32) ∧
    (let l := lastCount 0x20000#32; l.mode = .periodic ∧ l.presc + 1 = l.divideValue ∧ l.tccr = 1#32) := by decide

theorem witness_TickClosedForm : l0.CountsBounded ∧ l0.tccr = 0#32 ∧ tscMode.CountsBounded ∧ tscMode.mode = .tscDeadline ∧
    (lastCount 0#32).CountsBounded ∧ (lastCount 0#32).mode = .oneShot ∧ (lastCount 0#32).tccr ≠ 0#32 ∧
    (lastCount 0x20000#32).CountsBounded ∧ (lastCount 0x20000#32).mode = .periodic ∧ (lastCount 0x20000#32).tccr ≠ 0#32 ∧
    ((lastCount 0#32).presc + (0#64).toNat) / (lastCount 0#32).divideValue < (lastCount 0#32).tccr.toNat ∧
    (lastCount 0#32).tccr.toNat ≤ ((lastCount 0#32).presc + (1#64).toNat) / (lastCount 0#32).divideValue := by decide

theorem witness_TicksAddUp : (0xFFFFFFFFFFFFFFFE#64).toNat + (1#64).toNat < 2 ^ 64 ∧
    ∃ t, exec (.tick 0xFFFFFFFFFFFFFFFE#64) (sys (lastCount 0x20000#32)) = .next t := ⟨by decide, _, rfl⟩

theorem witness_DeadlineExpiresOnceAtOrAfterIt : armed.mode = .tscDeadline ∧ armed.tscdl ≠ 0#64 ∧ armed.tscdl ≤ 0x1000#64 ∧
    l0.mode ≠ .tscDeadline ∧ l0.tscdl = 0#64 ∧ 0xFFF#64 < armed.tscdl := by decide

theorem witness_TimerStateAfterEachEvent : l0.mode ≠ .tscDeadline ∧ l0.timerState = .disarmed ∧ tscMode.mode = .tscDeadline ∧
    (lastCount 0x20000#32).mode = .periodic ∧ (lastCount 0x20000#32).ticr ≠ 0#32 ∧ (lastCount 0x20000#32).timerState = .running ∧
    (lastCount 0#32).mode = .oneShot ∧ (lastCount 0#32).timerState = .running ∧ (lastCount 0#32).CountsBounded ∧
    (∀ l ∈ [l0, tscMode, lastCount 0x20000#32], ∀ i ∈ [Instr.wrTicr 1#32, .wrTicr 0#32, .wrTdcr 0xB#32, .reset, .wrTscdl 5#64,
      .tickTsc 0x1000#64, .tick 1#64, .wrLvtTimer 0x20040#32], (after i (sys l)).isSome = true) := by decide

theorem witness_DeliverableIsHighestAboveEveryClass :
    (let l := { l0 with tpr := 0xF0#32, irr := vecs [0xFF#8] }; bits l.tpr 4 4 = 15#4) ∧
    (let l := { l0 with tpr := 0x0F#32, irr := vecs [16#8] }; bits l.tpr 4 4 = 0#4 ∧ l.isr = 0#256 ∧ Bitmap.has l.irr 16#8 = true) ∧
    ({ l0 with tpr := 0x0F#32, irr := vecs [16#8] } : Lapic).NoLowVector ∧
    ({ l0 with irr := vecs [16#8] } : Lapic).deliverable = some 16#8 := by
  refine ⟨by decide, by decide, fun v h => ⟨?_, reset_noLowVector v h |>.2⟩, by decide +kernel⟩
  have hv : v ≠ 16#8 := by rintro rfl; revert h; decide
  simp [vecs, hv]

theorem witness_PendingVectorReportsArbitration : ({ l0 with irr := vecs [0xC8#8], tpr := 0xBF#32 } : Lapic).deliverable = some 0xC8#8 ∧
    ({ l0 with irr := vecs [0xC8#8], tpr := 0xC0#32 } : Lapic).deliverable = none := by decide +kernel

theorem witness_AcceptMovesOrReturnsSpurious : ({ l0 with irr := vecs [16#8], tpr := 0x0F#32 } : Lapic).deliverable = some 16#8 ∧
    l0.deliverable = none := by decide +kernel

theorem witness_AcceptedVectorOutranksEveryoneInService :
    (sys { l0 with irr := vecs [0x42#8], isr := vecs [0x3F#8] }).self.deliverable = some 0x42#8 ∧
    ∃ t u, exec .accept (sys { l0 with irr := vecs [0x42#8], isr := vecs [0x3F#8] }) = .next t ∧ exec (.wrEoi 0#32) t = .next u := by
  refine ⟨by decide +kernel, ?_⟩
  obtain ⟨t, ht⟩ := nexts (i := .accept) (s := sys { l0 with irr := vecs [0x42#8], isr := vecs [0x3F#8] }) (by decide +kernel)
  exact ⟨t, _, ht, rfl⟩

theorem witness_EoiRetiresTheHighestInService : l0.isr = 0#256 ∧
    (Bitmap.has ({ l0 with isr := vecs [0x31#8, 0x82#8] } : Lapic).isr 0x82#8 = true ∧
      (∀ w, Bitmap.has ({ l0 with isr := vecs [0x31#8, 0x82#8] } : Lapic).isr w = true → w ≤ 0x82#8)) ∧
    Bitmap.has l0.tmr 0x82#8 = false ∧ Bitmap.has ({ l0 with tmr := vecs [0x82#8] } : Lapic).tmr 0x82#8 = true :=
  ⟨rfl, vecs_greatest, by decide, by decide⟩

/-- An instance with one vector pending and one in service. -/
def busy : Lapic := { l0 with irr := vecs [0x42#8], isr := vecs [0x3F#8] }

theorem witness_ServiceBitsRiseOnlyByAcceptance : Bitmap.has (sys busy).self.isr 0x42#8 = false ∧
    ((after .accept (sys busy)).map fun t => Bitmap.has t.self.isr 0x42#8) = some true := by decide +kernel

theorem witness_PendingAndServiceBitsFallOnlyByTheirOwnOperations :
    (Bitmap.has (sys busy).self.irr 0x42#8 = true ∧ ((after .accept (sys busy)).map fun t => Bitmap.has t.self.irr 0x42#8) = some false) ∧
    (Bitmap.has (sys busy).self.isr 0x3F#8 = true ∧ ((after (.wrEoi 0#32) (sys busy)).map fun t => Bitmap.has t.self.isr 0x3F#8) = some false) := by
  decide +kernel

theorem witness_DestinationResolution : (assembleIcr 0#32 0x40000#32).shorthand = .self ∧
    (assembleIcr 0#32 0x80000#32).shorthand = .allIncludingSelf ∧ (assembleIcr 0#32 0xC0000#32).shorthand = .allExcludingSelf ∧
    ((assembleIcr 0x01000000#32 0x30#32).shorthand = .none ∧ (assembleIcr 0x01000000#32 0x30#32).destMode = .physical) ∧
    ((assembleIcr 0x01000000#32 0x830#32).shorthand = .none ∧ (assembleIcr 0x01000000#32 0x830#32).destMode = .logical) ∧
    State.reset.platform.logical = .flatCluster ∧
    ({ State.reset with platform := { logical := .delegated [⟨0#8, 1#8, [2#8]⟩] } } : State).platform.logical =
      .delegated [⟨0#8, 1#8, [2#8]⟩] := by decide

/-- The reset system with a destination in ICR_HI. -/
def sender (hi : Word) : State := sys { l0 with icrHi := hi }

theorem witness_FailedSendRecordsOneErrorAndDeliversNothing :
    (bits (icrLoStored 0x40030#32) 18 2 ≠ 0#2 ∧ bits (sender 0x02000000#32).self.icrHi 24 8 ≠ 0#8) ∧
    (bits (sender 0#32).self.icrHi 24 8 = 0#8 ∧ bits (icrLoStored 0x4000F#32) 8 3 ∈ [0#3, 1#3] ∧ (bits (icrLoStored 0x4000F#32) 0 8 : Vec).toNat < 16) ∧
    (bits (icrLoStored 0x10#32) 18 2 = 0#2 ∧ 16 ≤ (bits (icrLoStored 0x10#32) 0 8 : Vec).toNat ∧
      (sender 0x07000000#32).resolve (assembleIcr 0x07000000#32 (icrLoStored 0x10#32)) = []) := by decide

theorem witness_SendDeliversToEveryTarget :
    (let w := icrLoStored 0xC0010#32
     (bits w 18 2 = 0#2 ∨ bits (sender 0#32).self.icrHi 24 8 = 0#8) ∧ 16 ≤ (bits w 0 8 : Vec).toNat ∧ bits w 8 3 ≠ 1#3) ∧
    (let w := icrLoStored 0x608#32
     bits w 18 2 = 0#2 ∧ bits w 8 3 ∉ [0#3, 1#3] ∧ (sender 0x01000000#32).resolve (assembleIcr 0x01000000#32 w) ≠ []) ∧
    (let w := icrLoStored 0xC0110#32
     bits w 18 2 ≠ 0#2 ∧ bits State.reset.self.icrHi 24 8 = 0#8 ∧ bits w 8 3 = 1#3 ∧ 16 ≤ (bits w 0 8 : Vec).toNat ∧
      ({ State.reset with peers := [] } : State).resolve (assembleIcr 0#32 w) = []) := by decide

theorem witness_AllExcludingSelfReachesEveryOther : State.reset.DistinctIds ∧ bits State.reset.self.icrHi 24 8 = 0#8 ∧
    16 ≤ (16#8 : Vec).toNat := by decide

theorem witness_LowestPriorityElectsOneTarget :
    (let w := icrLoStored 0x80110#32
     bits w 8 3 = 1#3 ∧ 16 ≤ (bits w 0 8 : Vec).toNat ∧ (bits w 18 2 = 0#2 ∨ bits State.reset.self.icrHi 24 8 = 0#8) ∧
      State.reset.resolve (assembleIcr 0#32 w) ≠ []) ∧
    ({ State.reset with platform := { pick := .leastPriority } } : State).platform.pick = .leastPriority := by decide

theorem witness_DeliverIpiPostsOrForwards :
    (coerce [0#3, 1#3, 2#3, 4#3, 5#3, 6#3, 7#3] (bits 0x0110#40 8 3) = 1#3 ∧ 16 ≤ (bits 0x0110#40 0 8 : Vec).toNat ∧
      Bitmap.has l0.irr (bits 0x0110#40 0 8) = false ∧ Bitmap.has (vecs [16#8]) (bits 0x0110#40 0 8) = true) ∧
    (coerce [0#3, 1#3, 2#3, 4#3, 5#3, 6#3, 7#3] (bits 0x000F#40 8 3) = 0#3 ∧ (bits 0x000F#40 0 8 : Vec).toNat < 16) ∧
    ∀ m ∈ [(0x0200#40, CtlKind.smi), (0x0300#40, .smi), (0x0400#40, .nmi), (0x4500#40, .init), (0x0608#40, .startup), (0x0700#40, .extInt)],
      (coerce [0#3, 1#3, 2#3, 4#3, 5#3, 6#3, 7#3] (bits m.1 8 3), m.2) ∈
        [(2#3, CtlKind.smi), (4#3, .nmi), (5#3, .init), (6#3, .startup), (7#3, .extInt)] := by decide

theorem witness_InstancesTouchOneAnotherOnlyByDeliverIpi : (∃ t, exec .accept State.reset = .next t) ∧
    (∃ t, exec (.wrIcrLo 0xC0030#32) State.reset = .next t) ∧
    ((after (.wrIcrLo 5#32) State.reset).bind fun t => t.out.resp) = some { error := some (.illegalVector 5#8), rdata := .none } :=
  ⟨nexts (by decide +kernel), nexts (by decide), by decide⟩

theorem witness_EsrBitsAreStickyAndOnlyThree : Instr.wrIcrLo 5#32 ≠ .reset ∧ (∃ t, exec (.wrIcrLo 5#32) State.reset = .next t) ∧
    (sys { l0 with par := { apicId := 0#8, esrRecord := false } }).self.par.esrRecord = false := ⟨by decide, nexts (by decide), rfl⟩

theorem witness_ErrorsComeOnlyFromTheirOperations : ∀ p ∈ [(Instr.rdMalformed 1#3 0x090#12, Error.malformedAccess 0x090#12 1#3),
    (.wrMalformed 1#3 0x080#12 0#128, .malformedAccess 0x080#12 1#3), (.portReserved 0x20#8, .malformedPort 0x20#8),
    (.wrIcrLo 0x0F#32, .illegalVector 0x0F#8), (.deliverIpi 0x0F#40, .illegalVector 0x0F#8),
    (.wrIcrLo 0x40030#32, .invalidDestination (assembleIcr 0x07000000#32 0x40030#32)), (.wrIcrLo 0x30#32, .unresolvedTarget 0x07#8)],
    ((after p.1 (sender 0x07000000#32)).bind fun t => t.out.resp.bind (·.error)) = some p.2 := by decide

/-- What the invariants need of a system: one operation presented to an instance of the reset system, and a next state. -/
def sending : State := presented 1#8 (.mmio 0xA300#16 0xC0030#128)

theorem sending_steps : ∃ t, step sending = .next t := ⟨_, rfl⟩

theorem sending_instances : sending.vcpus = [l0, { l0 with par := { apicId := 1#8 } }, { l0 with par := { apicId := 2#8 } }] := rfl

theorem sending_every {P : Lapic → Prop} (h : ∀ id ∈ [0#8, 1#8, 2#8], P (Lapic.reset { apicId := id })) : sending.Every P := by
  intro l hl
  rw [sending_instances] at hl
  simp only [List.mem_cons, List.not_mem_nil, or_false] at hl
  rcases hl with rfl | rfl | rfl <;> exact h _ (by decide)

theorem witness_StepKeepsReservedBitsZero : sending.Every (fun l => l.ReservedZero ∧ Params.Legal l.par) ∧ ∃ t, step sending = .next t := by
  have h : ∀ id ∈ [0#8, 1#8, 2#8], Params.Legal { apicId := id } ∧
      ∀ r ∈ allRegs, (Lapic.reset { apicId := id }).readReg r &&& ~~~readableBits r = 0#32 := by decide +kernel
  exact ⟨sending_every fun id hid => ⟨fun r => (h id hid).2 r (mem_allRegs r), (h id hid).1⟩, sending_steps⟩

theorem witness_StepKeepsModeFieldsLegal : sending.Every Lapic.ModesLegal ∧ ∃ t, step sending = .next t :=
  ⟨sending_every fun _ _ => reset_modesLegal, sending_steps⟩

theorem witness_StepKeepsTimerWithinItsBounds : sending.Every (fun l => l.CountsBounded ∧ l.OneTimerArmed) ∧ ∃ t, step sending = .next t :=
  ⟨sending_every fun _ _ => (by decide : l0.CountsBounded ∧ l0.OneTimerArmed), sending_steps⟩

theorem witness_StepKeepsLowVectorsOut : sending.Every Lapic.NoLowVector ∧ ∃ t, step sending = .next t :=
  ⟨sending_every fun _ _ => reset_noLowVector, sending_steps⟩

theorem witness_StepKeepsOneVectorInServicePerClass : sending.Every Lapic.OneInServicePerClass ∧ ∃ t, step sending = .next t :=
  ⟨sending_every fun _ _ => reset_onePerClass, sending_steps⟩

theorem witness_StepKeepsTheSetOfInstances : sending.DistinctIds ∧ ∃ t, step sending = .next t := ⟨by decide, sending_steps⟩

theorem witness_WellAddressedRunsNeverStop : sending.WellAddressed ∧ ¬(presented 3#8 (.side 0x07#8 0#64)).WellAddressed := by decide

theorem witness_BusBytesAreLittleEndian : bits 0xFFC#12 0 2 = 0#2 ∧ (3 : Nat) < 4 ∧
    State.reset.platform.mmioBase = 0x00000000FEE00000#64 ∧ 0x00000000FEDFFFFF#64 < State.reset.platform.mmioBase ∧
    State.reset.platform.mmioBase + 0xFFF#64 < 0x00000000FEE01000#64 := by decide

/-- The ranges of the bit and register numbers in the statements on bank reads, LVT stores, ICR_LO and the divide value. -/
theorem witness_BankReadsReturnTheirThirtyTwoVectors : (31 : Nat) < 32 ∧ ((7 : Fin 8) : Nat) = 7 := by decide
theorem witness_LvtThermalFamilyWritesMaskAndCoerce : (7 : Nat) < 32 ∧ (7 < 8 ∨ 10 < 7) ∧ (11 : Nat) < 32 ∧ (11 < 8 ∨ 10 < 11) := by decide
theorem witness_LintWritesKeepRemoteIrr : (14 : Nat) < 32 ∧ (14 < 8 ∨ 10 < 14) ∧ (0 : Nat) < 32 ∧ (0 < 8 ∨ 10 < 0) := by decide
theorem witness_LvtErrorWriteDropsDeliveryMode : (0 : Nat) < 32 ∧ (31 : Nat) < 32 := by decide
theorem witness_IcrLowAlwaysKeepsTheWrittenValue : (31 : Nat) < 32 ∧ (31 < 8 ∨ 10 < 31) ∧ (after (.wrIcrLo 0x300#32) State.reset).isSome = true := by decide
theorem witness_DivideValueFollowsItsCode : (0 : BitVec 3) = bits l0.tdcr 3 1 ++ bits l0.tdcr 0 2 ∧
    (7 : BitVec 3) = bits (0xB#32) 3 1 ++ bits (0xB#32) 0 2 ∧ 1 ∈ [1, 2, 4, 8, 16, 32, 64, 128] ∧ 128 ∈ [1, 2, 4, 8, 16, 32, 64, 128] ∧
    pseudoSetDivide 1 = some [.wrTdcr 0xB#32] := by decide

end Sys2Proof.Tests
end

section
/-! PROOFS. What an operation can do to ISR (R54): `self` gains an in-service vector only by ACCEPT, and the peers keep theirs. -/

namespace Sys2Proof.Machine

/-! ## Acceptance, end of interrupt and delivery on one APIC -/

/-- A vector that an acceptance adds to ISR leaves IRR at the same time (R177). -/
theorem accept_isr_rises (l : Lapic) (v w : Vec) (hold : Bitmap.has l.isr w = false) (hnew : Bitmap.has (l.accept v).isr w = true) :
    Bitmap.has l.irr w = true ∧ Bitmap.has (l.accept v).irr w = false := by
  obtain ⟨hpending, haccept⟩ | ⟨-, haccept⟩ := accept_cases l v <;> rw [haccept] at hnew ⊢
  · obtain rfl : w = v := by simpa [hold] using hnew
    exact ⟨hpending, by simp⟩
  · rw [hold] at hnew; cases hnew

/-- An end of interrupt adds no vector to ISR (R180). -/
theorem has_isr_of_has_eoi_isr (l : Lapic) (v : Vec) (h : Bitmap.has l.eoi.isr v = true) : Bitmap.has l.isr v = true := by
  obtain ⟨-, he⟩ | ⟨w, -, ⟨-, he⟩ | ⟨-, he⟩⟩ := eoi_cases l <;> rw [he] at h
  · exact h
  · rw [has_clear, Bool.and_eq_true] at h; exact h.2
  · rw [has_clear, Bool.and_eq_true] at h; exact h.2

/-- The deliveries of a send leave every ISR as it was (R187). -/
theorem map_deliver_isr (ls : List Lapic) (targets : List ApicId) (msg : BitVec 40) :
    (ls.map fun l => if targets.contains l.par.apicId then (l.deliver msg).lapic else l).map (·.isr) = ls.map (·.isr) := by
  rw [List.map_map]
  refine List.map_congr_left fun l _ => ?_
  dsimp only [Function.comp_apply]
  split
  · exact deliver_isr l msg
  · rfl

/-! ## The operations that answer through a shared operation -/

/-- A local event changes `self` and the outputs alone (R150). -/
theorem fire_ends (s : State) (src : LvtSource) : ∃ l o, s.fire src = .next { s with self := l, out := o } := by
  obtain ⟨-, h⟩ | ⟨-, -, ⟨-, h⟩ | ⟨-, -, h⟩ | ⟨-, -, h⟩⟩ | ⟨-, k, -, h⟩ := fire_cases s src <;> exact ⟨_, _, h⟩

/-- A local event leaves ISR as it was: it posts, and a post goes to IRR (R150, R172). -/
theorem fire_isr (s t : State) (src : LvtSource) (h : s.fire src = .next t) : t.self.isr = s.self.isr := by
  obtain ⟨-, hf⟩ | ⟨-, -, ⟨-, hf⟩ | ⟨-, -, hf⟩ | ⟨-, -, hf⟩⟩ | ⟨-, k, -, hf⟩ := fire_cases s src <;> cases hf.symm.trans h
  case inr.inl.inl => exact esrRecord_isr _ _
  case inr.inl.inr.inr => dsimp only; split <;> simp
  all_goals rfl

/-- `DELIVER_IPI` changes `self` as `Lapic.deliver` says, and the outputs (R187). -/
theorem execDeliverIpi_ends (msg : BitVec 40) (s : State) :
    ∃ o, execDeliverIpi msg s = .next { s with self := (s.self.deliver msg).lapic, out := o } := by
  unfold execDeliverIpi
  split <;> rename_i h <;> rw [h] <;> exact ⟨_, rfl⟩

/-- `PENDING_VECTOR` changes the outputs alone (R176). -/
theorem execPendingVector_ends (s : State) : ∃ o, execPendingVector s = .next { s with out := o } := by
  unfold execPendingVector
  split <;> exact ⟨_, rfl⟩

/-- `ACCEPT` performs an acceptance on `self`, or changes the outputs alone (R179). -/
theorem execAccept_ends (s : State) :
    ∃ l o, execAccept s = .next { s with self := l, out := o } ∧ (l = s.self ∨ ∃ v, l = s.self.accept v) := by
  unfold execAccept
  split
  · exact ⟨_, _, rfl, .inr ⟨_, rfl⟩⟩
  · exact ⟨_, _, rfl, .inl rfl⟩

/-- `TICK_TSC` changes `self` and the outputs, and `self` keeps its ISR (R168). -/
theorem execTickTsc_ends (now : BitVec 64) (s : State) :
    ∃ l o, execTickTsc now s = .next { s with self := l, out := o } ∧ l.isr = s.self.isr := by
  unfold execTickTsc
  split
  · exact ⟨_, _, rfl, expire_isr _⟩
  · exact ⟨_, _, rfl, rfl⟩

/-- A send leaves the ISR of `self` as it was, and of the peers changes at most those that perform `DELIVER_IPI` (R183, R188). -/
theorem send_ends (s t : State) (h : s.send = .next t) :
    t.self.isr = s.self.isr ∧
    (t.peers = s.peers ∨
      ∃ (targets : List ApicId) (msg : BitVec 40),
        t.peers = s.peers.map fun l => if targets.contains l.par.apicId then (l.deliver msg).lapic else l) := by
  obtain ⟨b, e, -, hs⟩ | ⟨targets, n, hs⟩ := send_cases s <;> rw [hs] at h <;> cases h
  · exact ⟨esrRecord_isr _ _, .inl rfl⟩
  · refine ⟨?_, .inr ⟨targets, _, rfl⟩⟩
    dsimp only
    split
    · exact deliver_isr _ _
    · rfl

/-! ## Every operation -/

/-- Every operation but the ICR_LO write, the only one that sends, changes `self` and the outputs alone (R188). -/
theorem exec_ends (i : Instr) (s : State) (hi : ∀ value, i ≠ .wrIcrLo value) :
    ∃ l o, exec i s = .next { s with self := l, out := o } := by
  cases i with
  | wrIcrLo value => exact absurd rfl (hi value)
  | tickTsc now => obtain ⟨l, o, h, -⟩ := execTickTsc_ends now s; exact ⟨l, o, h⟩
  | pendingVector => obtain ⟨o, h⟩ := execPendingVector_ends s; exact ⟨_, o, h⟩
  | accept => obtain ⟨l, o, h, -⟩ := execAccept_ends s; exact ⟨l, o, h⟩
  | deliverIpi msg => obtain ⟨o, h⟩ := execDeliverIpi_ends msg s; exact ⟨_, o, h⟩
  | lvtFireCmci | lvtFireThermal | lvtFirePerfmon | lvtFireLint0 | lvtFireLint1 | lvtFireError => exact fire_ends s _
  | _ => exact ⟨_, _, rfl⟩

/-- What an operation can do to the peers: nothing, or a `DELIVER_IPI` on some of them (R188). -/
theorem exec_peers_cases (i : Instr) (s t : State) (h : exec i s = .next t) :
    t.peers = s.peers ∨
    ∃ (targets : List ApicId) (msg : BitVec 40),
      t.peers = s.peers.map fun l => if targets.contains l.par.apicId then (l.deliver msg).lapic else l := by
  by_cases hi : ∃ value, i = .wrIcrLo value
  · obtain ⟨value, rfl⟩ := hi
    exact (send_ends _ t h).2
  · obtain ⟨l, o, he⟩ := exec_ends i s fun value hv => hi ⟨value, hv⟩
    rw [he] at h; cases h
    exact .inl rfl

/-- No operation changes the ISR of a peer (R54). -/
theorem exec_peers_isr (i : Instr) (s t : State) (h : exec i s = .next t) : t.peers.map (·.isr) = s.peers.map (·.isr) := by
  obtain hp | ⟨targets, msg, hp⟩ := exec_peers_cases i s t h <;> rw [hp]
  exact map_deliver_isr s.peers targets msg

/-- What an operation can do to the ISR of `self`: nothing, an acceptance, an end of interrupt, or a reset (R54, R199). -/
theorem exec_self_isr_cases (i : Instr) (s t : State) (h : exec i s = .next t) :
    t.self.isr = s.self.isr ∨
    (∃ v, i = .accept ∧ t.self = s.self.accept v) ∨
    (∃ x, i = .wrEoi x ∧ t.self = s.self.eoi) ∨
    i = .reset ∧ t.self = Lapic.reset s.self.par := by
  cases i with
  | accept =>
    obtain ⟨l, o, he, hl⟩ := execAccept_ends s
    cases he.symm.trans h
    obtain rfl | ⟨v, rfl⟩ := hl
    · exact .inl rfl
    · exact .inr (.inl ⟨v, rfl, rfl⟩)
  | wrEoi x => cases h; exact .inr (.inr (.inl ⟨x, rfl, rfl⟩))
  | reset => cases h; exact .inr (.inr (.inr ⟨rfl, rfl⟩))
  | wrIcrLo value => exact .inl (send_ends _ t h).1
  | wrLvtTimer _ | wrTscdl _ => cases h; left; dsimp only; split <;> rfl
  | tick elapsed => cases h; exact .inl (tickBy_isr _ _)
  | tickTsc now => obtain ⟨l, o, he, hl⟩ := execTickTsc_ends now s; cases he.symm.trans h; exact .inl hl
  | pendingVector => obtain ⟨o, he⟩ := execPendingVector_ends s; cases he.symm.trans h; exact .inl rfl
  | deliverIpi msg => obtain ⟨o, he⟩ := execDeliverIpi_ends msg s; cases he.symm.trans h; exact .inl (deliver_isr _ _)
  | lvtFireCmci | lvtFireThermal | lvtFirePerfmon | lvtFireLint0 | lvtFireLint1 | lvtFireError => exact .inl (fire_isr s t _ h)
  | _ => cases h; exact .inl rfl

/-- Settles O40. Of the four things an operation can do to the ISR of `self`, only an acceptance adds a vector. -/
theorem serviceBitsRiseOnlyByAcceptance : Obligations.ServiceBitsRiseOnlyByAcceptance := by
  intro i s t h
  refine ⟨exec_peers_isr i s t h, fun v hold hnew => ?_⟩
  obtain hsame | ⟨w, rfl, ht⟩ | ⟨x, -, ht⟩ | ⟨-, ht⟩ := exec_self_isr_cases i s t h
  · rw [hsame, hold] at hnew; cases hnew
  · rw [ht] at hnew ⊢
    exact ⟨rfl, accept_isr_rises s.self w v hold hnew⟩
  · rw [ht] at hnew
    exact absurd (has_isr_of_has_eoi_isr s.self v hnew) (by simp [hold])
  · rw [ht] at hnew
    exact absurd hnew (by simp [Lapic.reset])

end Sys2Proof.Machine
end

section
/-! PROOFS. How an offset selects its register (R77, R79), and what the decoder makes of a 4-byte command at an aligned offset. -/

namespace Sys2Proof

/-! ## The fields of a header -/

@[simp] theorem headerIsWrite_header (write : Bool) (sz : BitVec 3) (off : BitVec 12) : headerIsWrite (header write sz off) = write :=
  calc headerIsWrite (header write sz off)
    _ = (BitVec.ofBool write ++ sz).getLsbD 3 := BitVec.getLsbD_append
    _ = (BitVec.ofBool write).getLsbD 0 := BitVec.getLsbD_append
    _ = write := by cases write <;> rfl

@[simp] theorem headerSize_header (write : Bool) (sz : BitVec 3) (off : BitVec 12) : headerSize (header write sz off) = sz :=
  (BitVec.extractLsb'_append_eq_of_le (le_refl 12)).trans BitVec.extractLsb'_append_eq_right

@[simp] theorem headerOffset_header (write : Bool) (sz : BitVec 3) (off : BitVec 12) : headerOffset (header write sz off) = off :=
  BitVec.extractLsb'_append_eq_right

/-- The data word of a 4-byte write is the low word of its lane (R73). -/
@[simp] theorem bits_setWidth_word (v : Word) : bits (v.setWidth 128) 0 32 = v := by
  ext i hi
  simp [bits, hi, show i < 128 by omega]

/-! ## The register at an offset -/

/-- No two registers share an offset: the search from an offset finds the register that stands there (R77). -/
@[simp] theorem regAt_regOffset (r : Reg) : regAt (regOffset r) = some r := by
  cases r with
  | isr k | tmr k | irr k => revert k; decide
  | _ => rfl

theorem regAt_eq_some_iff (off : BitVec 12) (r : Reg) : regAt off = some r ↔ regOffset r = off := by
  constructor
  · intro h
    exact eq_of_beq (List.find?_some (p := fun r => regOffset r == off) h)
  · rintro rfl
    exact regAt_regOffset r

theorem regAt_eq_none_of_hole (off : BitVec 12) (h : ∀ r, regOffset r ≠ off) : regAt off = none :=
  Option.eq_none_iff_forall_ne_some.mpr fun r hr => h r ((regAt_eq_some_iff off r).mp hr)

/-- R77's table lists every register: a search that finds a register found it in the list. -/
theorem reg_mem_allRegs (r : Reg) : r ∈ allRegs := List.mem_of_find?_eq_some (regAt_regOffset r)

/-- Every register stands at a multiple of 16 (R77). -/
theorem regOffset_low_bits (r : Reg) : bits (regOffset r) 0 4 = 0#4 := by
  cases r with
  | isr k | tmr k | irr k => revert k; decide
  | _ => rfl

theorem regOffset_aligned (r : Reg) : bits (regOffset r) 0 2 = 0#2 :=
  calc bits (regOffset r) 0 2
    _ = bits (bits (regOffset r) 0 4) 0 2 := (BitVec.extractLsb'_extractLsb'_of_le (by decide)).symm
    _ = 0#2 := by rw [regOffset_low_bits]; rfl

/-! ## 4-byte commands at an aligned offset -/

/-- An aligned 4-byte read is the read of the register at the offset, or the hole read (R79). -/
theorem decode_rdCommand (off : BitVec 12) (h : bits off 0 2 = 0#2) : decode (rdCommand off) = (regAt off).elim (.rdHole off) rdOf := by
  simp only [decode, rdCommand, decodeMmio, accessOk, headerIsWrite_header, headerSize_header, headerOffset_header, h]
  cases regAt off <;> rfl

/-- An aligned 4-byte write is the write of the register at the offset, or the hole write (R79). -/
theorem decode_wrCommand (off : BitVec 12) (v : Word) (h : bits off 0 2 = 0#2) :
    decode (wrCommand off v) = (regAt off).elim (.wrHole off v) (wrOf · v) := by
  simp only [decode, wrCommand, decodeMmio, accessOk, headerIsWrite_header, headerSize_header, headerOffset_header, bits_setWidth_word, h]
  cases regAt off <;> rfl

/-- Settles O5. The search `regAt` inverts `regOffset`, and the decoder reads an aligned 4-byte command through it. -/
theorem offsetSelectsItsRegisterExactly : Obligations.OffsetSelectsItsRegisterExactly := by
  refine ⟨by decide, reg_mem_allRegs, regAt_eq_some_iff, regOffset_low_bits, fun r v => ?_, fun off v haligned hhole => ?_⟩
  · rw [decode_rdCommand _ (regOffset_aligned r), decode_wrCommand _ v (regOffset_aligned r), regAt_regOffset]
    exact ⟨rfl, rfl⟩
  · rw [decode_rdCommand off haligned, decode_wrCommand off v haligned, regAt_eq_none_of_hole off hhole]
    exact ⟨rfl, rfl⟩

end Sys2Proof
end

section
/-! PROOFS. How TDCR selects the divide value (R84) and `SET_DIVIDE` sets it (R88). -/

namespace Sys2Proof.Machine

/-- `WR_TDCR` stores bits 3, 1 and 0 of the value and clears the prescaler (R45, R161). -/
theorem exec_wrTdcr (v : Word) (s : State) :
    exec (.wrTdcr v) s = .next (s.updated { s.self with tdcr := v &&& 0x0000000B#32, presc := 0 }) := rfl

/-- The code that `SET_DIVIDE` writes for `n`, stored in TDCR, selects the divide value `n` (R84, R88). -/
theorem divideValue_of_divideCode {n : Nat} {e : Word} (h : divideCode n = some e) {l : Lapic} (hl : l.tdcr = e &&& 0x0000000B#32) :
    l.divideValue = n := by
  unfold divideCode at h
  split at h <;> cases h <;> rw [Lapic.divideValue, hl] <;> rfl

/-- Each of the eight divide values has a code (R88). -/
theorem exists_divideCode : ∀ n ∈ [1, 2, 4, 8, 16, 32, 64, 128], ∃ e, divideCode n = some e := by
  simp [divideCode]

/-- Settles O25. `divideValue` is R84's formula, and TDCR keeps every bit of a divide code. -/
theorem divideValueFollowsItsCode : Obligations.DivideValueFollowsItsCode := by
  refine ⟨?_, fun s v => ⟨_, exec_wrTdcr v s, rfl⟩, fun n hn => ?_⟩
  · rintro l d rfl
    rfl
  · obtain ⟨e, he⟩ := exists_divideCode n hn
    exact ⟨e, by rw [pseudoSetDivide, he]; rfl, fun s => ⟨_, exec_wrTdcr e s, divideValue_of_divideCode he rfl⟩⟩

end Sys2Proof.Machine
end

section
/-! PROOFS. The identifier of an instance (R9, R92): no operation changes the parameters of the instance it is performed on. -/

namespace Sys2Proof.Machine

/-- A local event leaves the parameters as they were (R150). -/
theorem fire_par (s t : State) (src : LvtSource) (h : s.fire src = .next t) : t.self.par = s.self.par := by
  obtain ⟨-, hf⟩ | ⟨-, -, ⟨-, hf⟩ | ⟨-, -, hf⟩ | ⟨-, -, hf⟩⟩ | ⟨-, k, -, hf⟩ := fire_cases s src <;> cases hf.symm.trans h
  case inr.inl.inl => exact esrRecord_par _ _
  case inr.inl.inr.inr => dsimp only; split <;> simp
  all_goals rfl

/-- A send leaves the parameters of the sender as they were (R183). -/
theorem send_self_par (s t : State) (h : s.send = .next t) : t.self.par = s.self.par := by
  obtain ⟨b, e, -, hs⟩ | ⟨targets, n, hs⟩ := send_cases s <;> rw [hs] at h <;> cases h
  · exact esrRecord_par _ _
  · dsimp only
    split
    · exact deliver_par _ _
    · rfl

/-- No operation changes the parameters of the instance it is performed on (R9, R10). -/
theorem exec_self_par (i : Instr) (s t : State) (h : exec i s = .next t) : t.self.par = s.self.par := by
  cases i with
  | wrIcrLo value => exact send_self_par { s with self := { s.self with icrLo := icrLoStored value } } t h
  | wrEoi x => cases h; exact eoi_par _
  | wrLvtTimer _ | wrTscdl _ => cases h; dsimp only; split <;> rfl
  | tick elapsed => cases h; exact tickBy_par _ _
  | tickTsc now =>
    change execTickTsc now s = .next t at h
    unfold execTickTsc at h
    split at h <;> cases h
    · exact expire_par _
    · rfl
  | pendingVector => obtain ⟨o, he⟩ := execPendingVector_ends s; cases he.symm.trans h; rfl
  | accept =>
    obtain ⟨l, o, he, hl⟩ := execAccept_ends s
    cases he.symm.trans h
    obtain rfl | ⟨v, rfl⟩ := hl
    · rfl
    · exact accept_par _ _
  | deliverIpi msg => obtain ⟨o, he⟩ := execDeliverIpi_ends msg s; cases he.symm.trans h; exact deliver_par _ _
  | lvtFireCmci | lvtFireThermal | lvtFirePerfmon | lvtFireLint0 | lvtFireLint1 | lvtFireError => exact fire_par s t _ h
  | _ => cases h; rfl

/-- `RD_ID` answers the identifier in bits 31:24 and changes nothing (R92). -/
theorem exec_rdId (s : State) : exec .rdId s = .next (s.answered (.word (s.self.par.apicId ++ 0#24))) := rfl

/-- Settles O6. `RD_ID` reads a parameter, and every operation keeps the parameters. -/
theorem identifierReadNeverChanges : Obligations.IdentifierReadNeverChanges := by
  intro s
  refine ⟨exec_rdId s, fun i t h => ?_⟩
  rw [exec_rdId, exec_self_par i s t h]

end Sys2Proof.Machine
end

section
/-! PROOFS. What changes nothing: malformed accesses (R140, R141), reserved port ids (R142), holes (R138, R139) and writes of read-only
registers; and the plain masked stores. -/

namespace Sys2Proof.Machine

/-! ## Malformed accesses -/

/-- An access is refused when its size is not 4 bytes or its offset is not 4-byte aligned (R58, R73). -/
theorem accessOk_eq_false_iff (sz : BitVec 3) (off : BitVec 12) : accessOk sz off = false ↔ sz ≠ 2#3 ∨ bits off 0 2 ≠ 0#2 := by
  rw [accessOk, Bool.and_eq_false_iff, beq_eq_false_iff_ne, beq_eq_false_iff_ne]

/-- The alignment bits of the offset are the low bits of the header (R73). -/
theorem bits_headerOffset (h : BitVec 16) : bits (headerOffset h) 0 2 = bits h 0 2 :=
  BitVec.extractLsb'_extractLsb'_of_le (by decide)

/-- The size and alignment check comes before the offset is decoded (R140, R141). -/
theorem decodeMmio_malformed (h : BitVec 16) (d : BitVec 128) (hbad : accessOk (headerSize h) (headerOffset h) = false) :
    decodeMmio h d = if headerIsWrite h then .wrMalformed (headerSize h) (headerOffset h) (laneData (headerSize h) d)
      else .rdMalformed (headerSize h) (headerOffset h) := by
  simp only [decodeMmio, hbad]
  cases headerIsWrite h <;> rfl

/-- Settles O15. The decoder tests size and alignment first, and the two malformed operations answer without looking at a register. -/
theorem malformedAccessesAnswerAnErrorAndChangeNothing : Obligations.MalformedAccessesAnswerAnErrorAndChangeNothing := by
  refine ⟨fun h d hbad => ?_, fun s sz off v => ⟨rfl, rfl⟩, fun sz off d => rfl⟩
  rw [← bits_headerOffset] at hbad
  have hdecode := decodeMmio_malformed h d ((accessOk_eq_false_iff (headerSize h) _).mpr hbad)
  constructor
  · intro hread
    exact hdecode.trans (if_neg (ne_true_of_eq_false hread))
  · intro hwrite
    exact ⟨_, hdecode.trans (if_pos hwrite)⟩

/-! ## Reserved port ids -/

/-- A port id outside the two listed ranges decodes to the reserved operation (R74, R142). -/
theorem decodeSide_reserved (op : BitVec 8) (p : BitVec 64) (hlow : ¬(0x01#8 ≤ op ∧ op ≤ 0x08#8))
    (hhigh : ¬(0x10#8 ≤ op ∧ op ≤ 0x15#8)) : decodeSide op p = .portReserved op := by
  simp only [BitVec.le_def, BitVec.toNat_ofNat] at hlow hhigh
  unfold decodeSide
  split
  case h_15 => rfl
  all_goals omega

/-- Settles O16. Every id outside the two ranges falls to the decoder's last row, and that operation answers without a change. -/
theorem reservedPortIdsAreRefused : Obligations.ReservedPortIdsAreRefused :=
  ⟨decodeSide_reserved, fun _ _ => ⟨rfl, rfl⟩⟩

/-! ## Read-only registers and plain stores -/

/-- A write of a bank register is dropped, whichever of the eight it is (R109, R111, R113). -/
theorem exec_wrOf_bank (k : Fin 8) (v : Word) (s : State) :
    exec (wrOf (.isr k) v) s = .next (s.answered .none) ∧ exec (wrOf (.tmr k) v) s = .next (s.answered .none) ∧
    exec (wrOf (.irr k) v) s = .next (s.answered .none) := by
  fin_cases k <;> exact ⟨rfl, rfl, rfl⟩

/-- Settles O11. Each read-only register's write is one dropped write; a register outside the list is none of them. -/
theorem writesOfReadOnlyRegistersAreDropped : Obligations.WritesOfReadOnlyRegistersAreDropped := by
  intro s v r hr
  cases r with
  | isr k => exact (exec_wrOf_bank k v s).1
  | tmr k => exact (exec_wrOf_bank k v s).2.1
  | irr k => exact (exec_wrOf_bank k v s).2.2
  | id | version | ppr | esr | tccr => rfl
  | _ => exact absurd hr (by decide)

/-- Settles O12. Each of the five writes ends as `State.wrote` does, with one field of `self` replaced. -/
theorem plainMaskedStores : Obligations.PlainMaskedStores := fun s _ =>
  ⟨wrote_eq s _, wrote_eq s _, wrote_eq s _, wrote_eq s _, wrote_eq s _⟩

/-! ## Holes -/

/-- An aligned 4-byte read of an offset that no register of R77's table has is a hole read (R79, R138). -/
theorem decode_rdCommand_hole (off : BitVec 12) (haligned : bits off 0 2 = 0#2) (hhole : ∀ r ∈ allRegs, regOffset r ≠ off) :
    decode (rdCommand off) = .rdHole off := by
  rw [decode_rdCommand off haligned, regAt_eq_none_of_hole off fun r => hhole r (reg_mem_allRegs r)]
  rfl

/-- No register stands in the gaps after ESR, after TCCR and after TDCR (R77). -/
theorem regOffset_not_in_gap : ∀ r ∈ allRegs, ¬(0x290#12 ≤ regOffset r ∧ regOffset r ≤ 0x2E0#12 ∨
    0x3A0#12 ≤ regOffset r ∧ regOffset r ≤ 0x3D0#12 ∨ 0x3F0#12 ≤ regOffset r) := by
  decide

/-- The offsets that R138 lists by number are holes. -/
theorem decode_listed_holes : ∀ off ∈ [0x024#12, 0x028#12, 0x02C#12, 0x000#12, 0x010#12, 0x090#12, 0x0C0#12],
    decode (rdCommand off) = .rdHole off := by
  simp only [List.forall_mem_cons]
  exact ⟨rfl, rfl, rfl, rfl, rfl, rfl, rfl, nofun⟩

/-- Settles O14. Both hole operations leave `self` alone, and R77's table has no register in the gaps named. -/
theorem holesReadTheConstantAndDropWrites : Obligations.HolesReadTheConstantAndDropWrites := by
  refine ⟨fun s off v => ⟨rfl, rfl, fun t ht => ?_⟩, fun off hoff => ?_, fun off hlow hgap => ?_⟩
  · cases ht; rfl
  · exact decode_listed_holes off hoff
  · have haligned : bits off 0 2 = 0#2 :=
      calc bits off 0 2
        _ = bits (bits off 0 4) 0 2 := (BitVec.extractLsb'_extractLsb'_of_le (by decide)).symm
        _ = 0#2 := by rw [hlow]; rfl
    refine decode_rdCommand_hole off haligned ?_
    rintro r hr rfl
    exact regOffset_not_in_gap r hr hgap

end Sys2Proof.Machine
end

section
/-! PROOFS. The value an LVT write stores (R91): each field coerced into its legal set, each other bit written or kept by the mask. -/

namespace Sys2Proof.Machine

/-! ## The bits of a field update and of a masked store -/

theorem getLsbD_setBits {w : Nat} (v : Word) (lo : Nat) (x : BitVec w) (i : Nat) (hi : i < 32) :
    (setBits v lo x).getLsbD i = if lo ≤ i ∧ i < lo + w then x.getLsbD (i - lo) else v.getLsbD i := by
  simp only [setBits, BitVec.getLsbD_or, BitVec.getLsbD_and, BitVec.getLsbD_not, BitVec.getLsbD_shiftLeft, BitVec.getLsbD_setWidth,
    BitVec.getLsbD_allOnes]
  by_cases hlo : lo ≤ i
  · by_cases hw : i < lo + w
    · simp [hi, hlo, hw, show ¬i < lo by omega, show i - lo < 32 by omega, show i - lo < w by omega]
    · have hx : x.getLsbD (i - lo) = false := BitVec.getLsbD_of_ge x _ (by omega)
      simp [hi, hw, hx, show ¬i - lo < w by omega]
  · simp [hi, hlo, show i < lo by omega]

/-- A field reads back what was put into it. -/
theorem bits_setBits {w : Nat} (v : Word) (lo : Nat) (x : BitVec w) (h : lo + w ≤ 32) : bits (setBits v lo x) lo w = x := by
  apply BitVec.eq_of_getLsbD_eq
  intro i hi
  rw [bits, BitVec.getLsbD_extractLsb', getLsbD_setBits v lo x _ (by omega), if_pos ⟨by omega, by omega⟩]
  simp [hi]

/-- A masked store takes the written bit where the mask has it and keeps the old one elsewhere (R90). -/
theorem getLsbD_maskedStore (wm value old : Word) (i : Nat) :
    (maskedStore wm value old).getLsbD i = if wm.getLsbD i then value.getLsbD i else old.getLsbD i := by
  rw [maskedStore, BitVec.getLsbD_or, BitVec.getLsbD_and, BitVec.getLsbD_and, BitVec.getLsbD_not]
  by_cases hi : i < 32
  · cases wm.getLsbD i <;> simp [hi]
  · simp [BitVec.getLsbD_of_ge _ i (Nat.le_of_not_lt hi)]

/-- A field that lies wholly under the mask is stored as written (R90). -/
theorem bits_maskedStore (wm value old : Word) (lo w : Nat) (h : bits wm lo w = BitVec.allOnes w) :
    bits (maskedStore wm value old) lo w = bits value lo w := by
  apply BitVec.eq_of_getLsbD_eq
  intro i hi
  have hwm : wm.getLsbD (lo + i) = true := by
    have hbit := congrArg (·.getLsbD i) h
    simpa [bits, hi] using hbit
  simp only [bits, BitVec.getLsbD_extractLsb', getLsbD_maskedStore, hwm, if_true]

/-! ## The stored value -/

/-- A local source with a delivery mode field stores the masked value with the written mode coerced (R91). -/
theorem lvtStored_deliveryMode (r : Reg) (src : LvtSource) (value old : Word) (hfield : bits (writeMask r) 8 3 = 7#3)
    (hsrc : src ≠ .timer) :
    lvtStored r src value old = setBits (maskedStore (writeMask r) value old) 8 (coerce (legalModes src) (bits value 8 3)) := by
  rw [lvtStored, if_neg hsrc, if_pos (by rw [hfield]; decide), bits_maskedStore _ _ _ _ _ hfield]

/-- The delivery mode field of the stored value is the written one, coerced (R91, R147). -/
theorem bits_lvtStored (r : Reg) (src : LvtSource) (value old : Word) (hfield : bits (writeMask r) 8 3 = 7#3) (hsrc : src ≠ .timer) :
    bits (lvtStored r src value old) 8 3 = coerce (legalModes src) (bits value 8 3) := by
  rw [lvtStored_deliveryMode r src value old hfield hsrc, bits_setBits _ _ _ (by decide)]

/-- Outside the delivery mode field the stored value is the masked store (R91). -/
theorem getLsbD_lvtStored (r : Reg) (src : LvtSource) (value old : Word) (hfield : bits (writeMask r) 8 3 = 7#3) (hsrc : src ≠ .timer)
    (i : Nat) (hi : i < 32) (hout : i < 8 ∨ 10 < i) :
    (lvtStored r src value old).getLsbD i = if (writeMask r).getLsbD i then value.getLsbD i else old.getLsbD i := by
  rw [lvtStored_deliveryMode r src value old hfield hsrc, getLsbD_setBits _ _ _ _ hi, if_neg (by omega), getLsbD_maskedStore]

/-- LVT_TIMER has no delivery mode field; it stores the masked value with the written timer mode coerced (R91). -/
theorem lvtStored_timer (value old : Word) :
    lvtStored .lvtTimer .timer value old =
      setBits (maskedStore (writeMask .lvtTimer) value old) 17 (coerce legalTimerMode (bits value 17 2)) := by
  rw [lvtStored, if_pos rfl, if_neg (by decide), bits_maskedStore _ _ _ _ _ (by decide)]

/-! ## The writes -/

/-- CMCI, Thermal and Performance Counter: the pairs of stored and written delivery mode (R146, R147). -/
theorem coerce_legalBasic_pairs : ∀ p : BitVec 3, (coerce legalBasic p, p) ∈
    [(0#3, 0#3), (0#3, 1#3), (2#3, 2#3), (2#3, 3#3), (4#3, 4#3), (4#3, 5#3), (4#3, 6#3), (4#3, 7#3)] := by decide

/-- LINT0 and LINT1: the pairs of stored and written delivery mode (R146, R147). -/
theorem coerce_legalLint_pairs : ∀ p : BitVec 3, (coerce legalLint p, p) ∈
    [(0#3, 0#3), (0#3, 1#3), (2#3, 2#3), (2#3, 3#3), (4#3, 4#3), (5#3, 5#3), (5#3, 6#3), (7#3, 7#3)] := by decide

/-- The pairs of stored and written timer mode (R147). -/
theorem coerce_legalTimerMode_pairs : ∀ p : BitVec 2, (coerce legalTimerMode p, p) ∈
    [(0#2, 0#2), (1#2, 1#2), (2#2, 2#2), (2#2, 3#2)] := by decide

/-- Settles O17. The three registers have one write mask and one legal set. -/
theorem lvtThermalFamilyWritesMaskAndCoerce : Obligations.LvtThermalFamilyWritesMaskAndCoerce := by
  intro s v good
  have stored_good (r : Reg) (src : LvtSource) (old : Word) (hmask : writeMask r = 0x000107FF#32) (hlegal : legalModes src = legalBasic)
      (hsrc : src ≠ .timer) : good old (lvtStored r src v old) := by
    have hfield : bits (writeMask r) 8 3 = 7#3 := by rw [hmask]; decide
    refine ⟨?_, fun i hi hout => ?_⟩
    · rw [bits_lvtStored r src v old hfield hsrc, hlegal]
      exact coerce_legalBasic_pairs _
    · rw [getLsbD_lvtStored r src v old hfield hsrc i hi hout, hmask]
  exact ⟨⟨_, stored_good .lvtCmci .cmci _ rfl rfl (by decide), wrote_eq s _⟩,
    ⟨_, stored_good .lvtThermal .thermal _ rfl rfl (by decide), wrote_eq s _⟩,
    ⟨_, stored_good .lvtPerfmon .perfmon _ rfl rfl (by decide), wrote_eq s _⟩⟩

/-- Settles O18. `remote_irr` is bit 14, which neither the mask nor the delivery mode field holds. -/
theorem lintWritesKeepRemoteIrr : Obligations.LintWritesKeepRemoteIrr := by
  intro s v good
  have stored_good (r : Reg) (src : LvtSource) (old : Word) (hmask : writeMask r = 0x0001A7FF#32) (hlegal : legalModes src = legalLint)
      (hsrc : src ≠ .timer) : good old (lvtStored r src v old) := by
    have hfield : bits (writeMask r) 8 3 = 7#3 := by rw [hmask]; decide
    refine ⟨?_, ?_, fun i hi hout => ?_⟩
    · rw [bits_lvtStored r src v old hfield hsrc, hlegal]
      exact coerce_legalLint_pairs _
    · rw [getLsbD_lvtStored r src v old hfield hsrc 14 (by decide) (by decide), hmask]
      rfl
    · rw [getLsbD_lvtStored r src v old hfield hsrc i hi hout, hmask]
  exact ⟨⟨_, stored_good .lvtLint0 .lint0 _ rfl rfl (by decide), wrote_eq s _⟩,
    ⟨_, stored_good .lvtLint1 .lint1 _ rfl rfl (by decide), wrote_eq s _⟩⟩

/-- `WR_LVT_TIMER` disarms exactly when the stored mode field is another than before (R123, R165). -/
theorem exec_wrLvtTimer (value : Word) (s : State) :
    let new := lvtStored .lvtTimer .timer value s.self.lvtTimer
    exec (.wrLvtTimer value) s = .next (s.updated (if bits new 17 2 = bits s.self.lvtTimer 17 2 then { s.self with lvtTimer := new }
      else ({ s.self with lvtTimer := new } : Lapic).timerDisarm)) := rfl

/-- Settles O27. The coerced mode field is put into the masked store, and `exec_wrLvtTimer` compares it with the old one. -/
theorem lvtTimerWriteDisarmsExactlyOnModeChange : Obligations.LvtTimerWriteDisarmsExactlyOnModeChange := by
  intro s v
  refine ⟨lvtStored .lvtTimer .timer v s.self.lvtTimer, ?_, fun i hi h17 h18 => ?_, fun hsame => ?_, fun hchanged => ?_⟩
  · rw [lvtStored_timer, bits_setBits _ _ _ (by decide)]
    exact coerce_legalTimerMode_pairs _
  · rw [lvtStored_timer, getLsbD_setBits _ _ _ _ hi, if_neg (by omega), getLsbD_maskedStore]
    rfl
  · rw [exec_wrLvtTimer, if_pos hsame]
  · rw [exec_wrLvtTimer, if_neg hchanged]
    rfl

end Sys2Proof.Machine
end

section
/-! PROOFS. The EOI write (R101, R180). -/

namespace Sys2Proof.Machine

/-- `hsb` names the greatest vector of a bitmap. -/
theorem hsb_eq_some_of_greatest (m : Bitmap) (v : Vec) (hv : Bitmap.has m v = true) (hmax : ∀ w, Bitmap.has m w = true → w ≤ v) :
    hsb m = some v := by
  obtain ⟨w, hw⟩ := exists_hsb m v hv
  rw [hw, BitVec.le_antisymm (hmax w (hsb_has m w hw)) (le_hsb m w v hw hv)]

/-- `WR_EOI` performs `eoi()`, whatever the value written (R101). -/
theorem exec_wrEoi (x : Word) (s : State) : exec (.wrEoi x) s = .next (s.updated s.self.eoi) := rfl

/-- Settles O39. The greatest vector in service is the one `eoi()` retires, and its TMR bit decides whether `remote_irr` falls. -/
theorem eoiRetiresTheHighestInService : Obligations.EoiRetiresTheHighestInService := by
  intro s x
  rw [exec_wrEoi]
  obtain ⟨hempty, he⟩ | ⟨w, hw, hretired⟩ := eoi_cases s.self
  · rw [he]
    refine ⟨fun _ => rfl, fun v hv => ?_⟩
    rw [hempty, has_zero] at hv
    cases hv
  · refine ⟨fun hempty => ?_, fun v hv hmax => ?_⟩
    · rw [(hsb_eq_none _).mpr hempty] at hw
      cases hw
    · obtain rfl : w = v := Option.some.inj (hw.symm.trans (hsb_eq_some_of_greatest _ v hv hmax))
      obtain ⟨htmr, he⟩ | ⟨htmr, he⟩ := hretired <;> rw [he, htmr]
      · exact ⟨fun _ => rfl, nofun⟩
      · exact ⟨nofun, fun _ => rfl⟩

end Sys2Proof.Machine
end

section
/-! PROOFS. Local events (R150): a masked one is dropped, a Fixed one is posted, any other leaves on `ctl_event`. -/

namespace Sys2Proof.Machine

/-! ## The decoded entry -/

/-- Trigger mode applies to the two LINT sources alone (R146). -/
theorem decodeLvt_trigger (src : LvtSource) (raw : Word) :
    (decodeLvt src raw).trigger = Trigger.ofBool ((src = .lint0 ∨ src = .lint1) && raw.getLsbD 15) := by
  cases src <;> rfl

/-- A legal pattern is decoded as it stands (R145, R147). -/
theorem decodeLvt_deliveryMode (src : LvtSource) (raw : Word) (h : bits raw 8 3 ∈ legalModes src) :
    (decodeLvt src raw).deliveryMode = DeliveryMode.ofBits (bits raw 8 3) :=
  congrArg DeliveryMode.ofBits (coerce_legalModes_of_mem src _ h)

/-- The four patterns of the LVT that are no Fixed request, with the event each makes (R146, R150). -/
theorem ctlKind_ofBits_of_mem : ∀ pk ∈ [(2#3, CtlKind.smi), (4#3, .nmi), (5#3, .init), (7#3, .extInt)],
    (DeliveryMode.ofBits pk.1).ctlKind = some pk.2 := by decide

/-! ## What a post leaves of a local source's instance -/

/-- An error record as a change of the field ESR (R196). -/
theorem esrRecord_eq_esrWith (l : Lapic) (b : Nat) : l.esrRecord b = { l with esr := l.esrWith (1#32 <<< b) } := by
  obtain ⟨h, hrecord⟩ | ⟨h, hrecord⟩ := esrRecord_cases l b <;> simp [h, hrecord, Lapic.esrWith]

/-- `remote_irr` rises in the entry of a LINT source and nowhere else (R150). -/
theorem setRemoteIrr_eq (l : Lapic) (src : LvtSource) : l.setRemoteIrr src = { l with
    lvtLint0 := if src = .lint0 then l.lvt src ||| 0x00004000#32 else l.lvtLint0
    lvtLint1 := if src = .lint1 then l.lvt src ||| 0x00004000#32 else l.lvtLint1 } := by
  cases src <;> rfl

/-- No LVT entry depends on IRR or TMR. -/
theorem lvt_with_irr_tmr (l : Lapic) (m n : Bitmap) (src : LvtSource) : ({ l with irr := m, tmr := n } : Lapic).lvt src = l.lvt src := by
  cases src <;> rfl

/-- A Fixed event with a new vector, field by field: IRR, the recorded trigger mode, and `remote_irr` when level-triggered (R150, R172). -/
theorem post_remoteIrr_of_new (l : Lapic) (src : LvtSource) (v : Vec) (level : Bool) (hv : 16 ≤ v.toNat)
    (hnew : Bitmap.has l.irr v = false) :
    (if Trigger.ofBool level = .level then (l.post v (Trigger.ofBool level)).2.setRemoteIrr src
      else (l.post v (Trigger.ofBool level)).2) = { l with
        irr := Bitmap.set l.irr v
        tmr := if level then Bitmap.set l.tmr v else Bitmap.clear l.tmr v
        lvtLint0 := if src = .lint0 ∧ level then l.lvt src ||| 0x00004000#32 else l.lvtLint0
        lvtLint1 := if src = .lint1 ∧ level then l.lvt src ||| 0x00004000#32 else l.lvtLint1 } := by
  obtain ⟨hlow, -⟩ | ⟨-, hpending, -⟩ | ⟨-, -, hpost⟩ := post_cases l v (Trigger.ofBool level)
  · omega
  · cases hpending.symm.trans hnew
  · rw [hpost]
    cases level with
    | false => simp [Trigger.ofBool, Bitmap.put]
    | true => simp [Trigger.ofBool, Bitmap.put, setRemoteIrr_eq, lvt_with_irr_tmr]

/-! ## The event by its entry -/

/-- Each `LVT_FIRE_*` fires its own source (R151 to R156). -/
theorem exec_lvtFire (s : State) (src : LvtSource) (i : Instr) (h : (src, i) ∈ [(LvtSource.cmci, Instr.lvtFireCmci),
    (.thermal, .lvtFireThermal), (.perfmon, .lvtFirePerfmon), (.lint0, .lvtFireLint0), (.lint1, .lvtFireLint1),
    (.error, .lvtFireError)]) : exec i s = s.fire src := by
  simp only [List.mem_cons, Prod.mk.injEq, List.not_mem_nil, or_false] at h
  obtain ⟨rfl, rfl⟩ | ⟨rfl, rfl⟩ | ⟨rfl, rfl⟩ | ⟨rfl, rfl⟩ | ⟨rfl, rfl⟩ | ⟨rfl, rfl⟩ := h <;> rfl

/-- A masked event is dropped (R150). -/
theorem fire_of_masked (s : State) (src : LvtSource) (hmask : (s.self.lvt src).getLsbD 16 = true) :
    s.fire src = .next (s.answered .none) := by
  obtain ⟨-, hf⟩ | ⟨hm, -⟩ | ⟨hm, -⟩ := fire_cases s src
  · exact hf
  · cases hmask.symm.trans hm
  · cases hmask.symm.trans hm

/-- An unmasked Fixed event is rejected, absorbed or posted, as its vector decides (R150, R172). -/
theorem fire_of_fixed (s : State) (src : LvtSource) (hmask : (s.self.lvt src).getLsbD 16 = false)
    (hfixed : (decodeLvt src (s.self.lvt src)).deliveryMode.ctlKind = none) :
    let e := decodeLvt src (s.self.lvt src)
    e.vector.toNat < 16 ∧ s.fire src = s.raise (s.self.esrRecord 6) (.illegalVector e.vector) .none ∨
    16 ≤ e.vector.toNat ∧ Bitmap.has s.self.irr e.vector = true ∧ s.fire src = .next (s.answered .none) ∨
    16 ≤ e.vector.toNat ∧ Bitmap.has s.self.irr e.vector = false ∧
      s.fire src = .next (s.updated (if e.trigger = .level then (s.self.post e.vector e.trigger).2.setRemoteIrr src
        else (s.self.post e.vector e.trigger).2)) := by
  obtain ⟨hm, -⟩ | ⟨-, -, hpost⟩ | ⟨-, k, hk, -⟩ := fire_cases s src
  · cases hmask.symm.trans hm
  · exact hpost
  · cases hfixed.symm.trans hk

/-- An unmasked event of another delivery mode leaves on `ctl_event` (R150). -/
theorem fire_of_ctlKind (s : State) (src : LvtSource) (k : CtlKind) (hmask : (s.self.lvt src).getLsbD 16 = false)
    (hkind : (decodeLvt src (s.self.lvt src)).deliveryMode.ctlKind = some k) :
    let e := decodeLvt src (s.self.lvt src)
    s.fire src = .next { s with out := s.emitted (
      { kind := k, vector := e.vector, level := .assert, trigger := e.trigger, origin := .lvt src }) } := by
  obtain ⟨hm, -⟩ | ⟨-, hnone, -⟩ | ⟨-, k', hk', hf⟩ := fire_cases s src
  · cases hmask.symm.trans hm
  · cases hnone.symm.trans hkind
  · obtain rfl : k' = k := Option.some.inj (hk'.symm.trans hkind)
    exact hf

/-- Settles O24. A legal delivery mode is decoded as it stands; it decides between a post and an event. -/
theorem localEventIsDroppedPostedOrForwarded : Obligations.LocalEventIsDroppedPostedOrForwarded := by
  intro s src i hi raw v level hlegal
  rw [exec_lvtFire s src i hi]
  have hmode : (decodeLvt src raw).deliveryMode = DeliveryMode.ofBits (bits raw 8 3) := decodeLvt_deliveryMode src raw hlegal
  have hvector : (decodeLvt src raw).vector = v := rfl
  have htrigger : (decodeLvt src raw).trigger = Trigger.ofBool level := decodeLvt_trigger src raw
  have hpost (hmask : raw.getLsbD 16 = false) (hfixed : bits raw 8 3 = 0#3) :=
    fire_of_fixed s src hmask ((congrArg DeliveryMode.ctlKind hmode).trans (by rw [hfixed]; rfl))
  refine ⟨fire_of_masked s src, fun hmask hfixed hv hnew => ?_, fun hmask hfixed hv hpending => ?_, fun hmask hfixed hv => ?_,
    fun hmask k hk => ?_⟩
  · obtain ⟨hlow, -⟩ | ⟨-, hpending, -⟩ | ⟨-, -, hf⟩ := hpost hmask hfixed
    · exact absurd hv (Nat.not_le.mpr hlow)
    · cases hpending.symm.trans hnew
    · rw [hf, htrigger, hvector, post_remoteIrr_of_new s.self src v level hv hnew]
  · obtain ⟨hlow, -⟩ | ⟨-, -, hf⟩ | ⟨-, hnew, -⟩ := hpost hmask hfixed
    · exact absurd hv (Nat.not_le.mpr hlow)
    · exact hf
    · cases hnew.symm.trans hpending
  · obtain ⟨-, hf⟩ | ⟨hhigh, -⟩ | ⟨hhigh, -⟩ := hpost hmask hfixed
    · rw [hf, esrRecord_eq_esrWith]
      rfl
    · exact absurd hhigh (Nat.not_le.mpr hv)
    · exact absurd hhigh (Nat.not_le.mpr hv)
  · rw [fire_of_ctlKind s src k hmask ((congrArg DeliveryMode.ctlKind hmode).trans (ctlKind_ofBits_of_mem _ hk)), htrigger]
    rfl

end Sys2Proof.Machine
end

section
/-! PROOFS. The writes of the timer's registers (R160, R161, R166): which of them the mode lets arm the timer. -/

namespace Sys2Proof.Machine

/-- `WR_TICR` loads TCCR in the count-down modes alone (R160). -/
theorem exec_wrTicr (v : Word) (s : State) : exec (.wrTicr v) s = .next (s.updated
    { s.self with ticr := v, tccr := if s.self.mode = .tscDeadline then s.self.tccr else v, presc := 0 }) := rfl

/-- `WR_TSCDL` arms the deadline in TscDeadline mode alone (R166). -/
theorem exec_wrTscdl (d : BitVec 64) (s : State) : exec (.wrTscdl d) s =
    .next (s.updated (if s.self.mode = .tscDeadline then { s.self with tscdl := d } else s.self)) := rfl

/-- Settles O26. The mode decides the one conditional of `exec_wrTicr` and of `exec_wrTscdl`; `WR_TDCR` has none. -/
theorem timerRegisterWrites : Obligations.TimerRegisterWrites := by
  intro s v d
  refine ⟨fun hcount => ?_, fun hdeadline => ?_, exec_wrTdcr v s, fun hdeadline => ?_, fun hcount => ?_⟩
  · rw [exec_wrTicr, if_neg hcount]
  · rw [exec_wrTicr, if_pos hdeadline]
  · rw [exec_wrTscdl, if_pos hdeadline]
  · rw [exec_wrTscdl, if_neg hcount]
    rfl

end Sys2Proof.Machine
end

section
/-! PROOFS. ACCEPT (R177, R179): what arbitration offers is pending, so the acceptance always moves it. -/

namespace Sys2Proof.Machine

/-- Arbitration offers the highest pending vector, and only above the Processor Priority's class (R174). -/
theorem deliverable_eq_some_iff (l : Lapic) (v : Vec) :
    l.deliverable = some v ↔ hsb l.irr = some v ∧ cls l.ppr < cls v := by
  unfold Lapic.deliverable
  cases hsb l.irr with
  | none => exact ⟨nofun, nofun⟩
  | some w =>
    dsimp only
    split <;> rename_i habove
    · exact ⟨fun h => ⟨h, Option.some.inj h ▸ habove⟩, And.left⟩
    · exact ⟨nofun, fun ⟨hw, hv⟩ => absurd (Option.some.inj hw ▸ hv) habove⟩

/-- What arbitration offers is pending (R174). -/
theorem has_irr_of_deliverable (l : Lapic) (v : Vec) (h : l.deliverable = some v) : Bitmap.has l.irr v = true :=
  hsb_has l.irr v ((deliverable_eq_some_iff l v).mp h).1

/-- The acceptance of a pending vector moves it from IRR to ISR (R177). -/
theorem accept_of_pending (l : Lapic) (v : Vec) (hpending : Bitmap.has l.irr v = true) :
    l.accept v = { l with irr := Bitmap.clear l.irr v, isr := Bitmap.set l.isr v } := by
  obtain ⟨-, h⟩ | ⟨hnot, -⟩ := accept_cases l v
  · exact h
  · cases hnot.symm.trans hpending

/-- With a deliverable vector, `ACCEPT` accepts it and answers `1 || v` (R178). -/
theorem exec_accept_of_deliverable (s : State) (v : Vec) (h : s.self.deliverable = some v) :
    exec .accept s = s.reply (s.self.accept v) (.vec (1#1 ++ v)) := by
  change execAccept s = _
  rw [execAccept, h]
  rfl

/-- With none, `ACCEPT` answers `0 || SVR[7:0]` and keeps every field (R179). -/
theorem exec_accept_of_none (s : State) (h : s.self.deliverable = none) :
    exec .accept s = .next (s.answered (.vec (0#1 ++ bits s.self.svr 0 8))) := by
  change execAccept s = _
  rw [execAccept, h]
  rfl

/-- Settles O37. The deliverable vector is pending, so `Lapic.accept` moves it and does not refuse. -/
theorem acceptMovesOrReturnsSpurious : Obligations.AcceptMovesOrReturnsSpurious := by
  refine fun s => ⟨fun v h => ?_, exec_accept_of_none s⟩
  rw [exec_accept_of_deliverable s v h, accept_of_pending s.self v (has_irr_of_deliverable s.self v h)]
  rfl

end Sys2Proof.Machine
end

section
/-! PROOFS. The write of ICR_LO (R119, R183): it fails at the sender alone, or its one message is delivered to some targets (R188). -/

namespace Sys2Proof.Machine

/-- Outside the delivery mode field, ICR_LO takes the written bits under its write mask (R119). -/
theorem getLsbD_icrLoStored (v : Word) (i : Nat) (hi : i < 32) (hout : i < 8 ∨ 10 < i) :
    (icrLoStored v).getLsbD i = (v.getLsbD i && (writeMask .icrLo).getLsbD i) := by
  unfold icrLoStored
  rw [getLsbD_setBits _ _ _ _ hi, if_neg (by omega), BitVec.getLsbD_and]

/-- The delivery status, bit 12, is outside the write mask: what ICR_LO stores is Idle already, and the message is the stored word as it
is (R183, R186). -/
theorem ipiMessage_of_icrLoStored (l : Lapic) (v : Word) :
    ({ l with icrLo := icrLoStored v } : Lapic).ipiMessage = l.par.apicId ++ icrLoStored v := by
  have idle : icrLoStored v &&& ~~~0x00001000#32 = icrLoStored v := by
    refine BitVec.eq_of_getLsbD_eq fun i hi => ?_
    rw [BitVec.getLsbD_and]
    by_cases h12 : i = 12
    · subst h12
      rw [getLsbD_icrLoStored v 12 hi (by decide), show (writeMask .icrLo).getLsbD 12 = false from rfl, Bool.and_false, Bool.false_and]
    · have keeps : ∀ j < 32, j ≠ 12 → (~~~0x00001000#32).getLsbD j = true := by decide
      rw [keeps i hi h12, Bool.and_true]
  exact congrArg (l.par.apicId ++ ·) idle

/-- `WR_ICR_LO` stores the value and sends (R119). -/
theorem exec_wrIcrLo (v : Word) (s : State) :
    exec (.wrIcrLo v) s = ({ s with self := { s.self with icrLo := icrLoStored v } } : State).send := rfl

/-- `WR_ICR_LO` fails, with one bit recorded in the sender's ESR beside the stored value, or has the message of the stored value
delivered to some targets (R183, R188). -/
theorem exec_wrIcrLo_cases (v : Word) (s : State) :
    (∃ (b : Nat) (e : Error), exec (.wrIcrLo v) s = .next
      (({ s with self := { s.self with icrLo := icrLoStored v, esr := s.self.esrWith (1#32 <<< b) } } : State).failed e .none)) ∨
    ∃ targets n, exec (.wrIcrLo v) s = ({ s with self := { s.self with icrLo := icrLoStored v }, picks := n } : State).deliverAll
      targets (s.self.par.apicId ++ icrLoStored v) := by
  rw [exec_wrIcrLo]
  obtain ⟨b, e, -, hsend⟩ | ⟨targets, n, hsend⟩ := send_cases { s with self := { s.self with icrLo := icrLoStored v } }
  · rw [hsend, esrRecord_eq_esrWith]
    exact .inl ⟨b, e, rfl⟩
  · rw [hsend, ipiMessage_of_icrLoStored]
    exact .inr ⟨targets, n, rfl⟩

/-- Settles O49. Every other operation ends with the peers it began with (`exec_ends`); of the two ends of a send, the one that answers
an error touches no peer, and the one that touches peers answers OK. -/
theorem instancesTouchOneAnotherOnlyByDeliverIpi : Obligations.InstancesTouchOneAnotherOnlyByDeliverIpi := by
  intro i s t h
  refine ⟨fun hi => ?_, ?_⟩
  · obtain ⟨l, o, he⟩ := exec_ends i s hi
    cases he.symm.trans h
    rfl
  · rintro v rfl
    obtain ⟨b, e, hfailed⟩ | ⟨targets, n, hdelivered⟩ := exec_wrIcrLo_cases v s
    · cases hfailed.symm.trans h
      exact ⟨⟨[], by simp⟩, fun _ _ _ => ⟨rfl, _, rfl⟩⟩
    · cases hdelivered.symm.trans h
      exact ⟨⟨targets, by simp⟩, fun _ _ herror => by cases herror⟩

end Sys2Proof.Machine
end

section
/-! PROOFS. DELIVER_IPI (R187): the coerced delivery mode decides between a post and an event. -/

namespace Sys2Proof.Machine

/-! ## The modes of a message -/

/-- Fixed and LowestPriority messages are vectors (R187). -/
theorem ctlKind_ofBits_of_vector (m : BitVec 3) (h : m = 0#3 ∨ m = 1#3) : (DeliveryMode.ofBits m).ctlKind = none := by
  obtain rfl | rfl := h <;> rfl

/-- The five ICR patterns that are no vector request, with the event each makes (R83, R187). -/
theorem ctlKind_ofBits_of_event : ∀ pk ∈ [(2#3, CtlKind.smi), (4#3, .nmi), (5#3, .init), (6#3, .startup), (7#3, .extInt)],
    (DeliveryMode.ofBits pk.1).ctlKind = some pk.2 := by decide

/-! ## DELIVER_IPI by the mode of its message -/

theorem exec_deliverIpi (msg : BitVec 40) (s : State) : exec (.deliverIpi msg) s = execDeliverIpi msg s := rfl

/-- A Fixed or LowestPriority message ends as the post of its vector ends (R172, R187). -/
theorem exec_deliverIpi_of_vector (s : State) (msg : BitVec 40)
    (hmode : (DeliveryMode.ofBits (coerce legalIcr (bits msg 8 3))).ctlKind = none) :
    let v : Vec := bits msg 0 8
    v.toNat < 16 ∧ exec (.deliverIpi msg) s = s.raise (s.self.esrRecord 6) (.illegalVector v) .none ∨
    16 ≤ v.toNat ∧ Bitmap.has s.self.irr v = true ∧ exec (.deliverIpi msg) s = .next (s.answered .none) ∨
    16 ≤ v.toNat ∧ Bitmap.has s.self.irr v = false ∧ exec (.deliverIpi msg) s = .next (s.updated { s.self with
      irr := Bitmap.set s.self.irr v
      tmr := Bitmap.put s.self.tmr v (Trigger.ofBool (msg.getLsbD 15) = .level) }) := by
  intro v
  simp only [exec_deliverIpi, execDeliverIpi, Lapic.deliver, hmode]
  obtain ⟨hv, hpost⟩ | ⟨hv, hpending, hpost⟩ | ⟨hv, hnew, hpost⟩ := post_cases s.self v (Trigger.ofBool (msg.getLsbD 15)) <;>
    rw [hpost]
  · exact .inl ⟨hv, rfl⟩
  · exact .inr (.inl ⟨hv, hpending, rfl⟩)
  · exact .inr (.inr ⟨hv, hnew, rfl⟩)

/-- A message of another mode leaves on `ctl_event` as it came, and no register changes (R187). -/
theorem exec_deliverIpi_of_ctlKind (s : State) (msg : BitVec 40) (k : CtlKind)
    (hmode : (DeliveryMode.ofBits (coerce legalIcr (bits msg 8 3))).ctlKind = some k) :
    exec (.deliverIpi msg) s = .next { s with out := s.emitted (
      { kind := k, vector := bits msg 0 8, level := Level.ofBool (msg.getLsbD 14), trigger := Trigger.ofBool (msg.getLsbD 15),
        origin := .sender (bits msg 32 8) }) } := by
  simp only [exec_deliverIpi, execDeliverIpi, Lapic.deliver, hmode]
  rfl

/-- The trigger mode a post records is the message's bit (R30, R172). -/
theorem put_trigger (m : Bitmap) (v : Vec) (level : Bool) :
    Bitmap.put m v (Trigger.ofBool level = .level) = if level then Bitmap.set m v else Bitmap.clear m v := by
  cases level <;> rfl

/-- Settles O48. The coerced mode selects the post or the event; the vector and IRR select which of the three ends the post has. -/
theorem deliverIpiPostsOrForwards : Obligations.DeliverIpiPostsOrForwards := by
  intro s msg v m
  have hpost (hm : m = 0#3 ∨ m = 1#3) := exec_deliverIpi_of_vector s msg (ctlKind_ofBits_of_vector m hm)
  refine ⟨fun hm hv hnew => ?_, fun hm hv hpending => ?_, fun hm hv => ?_, fun k hk => ?_⟩
  · obtain ⟨hlow, -⟩ | ⟨-, hpending, -⟩ | ⟨-, -, he⟩ := hpost hm
    · exact absurd hv (Nat.not_le.mpr hlow)
    · cases hpending.symm.trans hnew
    · rw [he, put_trigger]
  · obtain ⟨hlow, -⟩ | ⟨-, -, he⟩ | ⟨-, hnew, -⟩ := hpost hm
    · exact absurd hv (Nat.not_le.mpr hlow)
    · exact he
    · cases hnew.symm.trans hpending
  · obtain ⟨-, he⟩ | ⟨hhigh, -⟩ | ⟨hhigh, -⟩ := hpost hm
    · rw [he, esrRecord_eq_esrWith]
      rfl
    · exact absurd hhigh (Nat.not_le.mpr hv)
    · exact absurd hhigh (Nat.not_le.mpr hv)
  · exact exec_deliverIpi_of_ctlKind s msg k (ctlKind_ofBits_of_event _ hk)

end Sys2Proof.Machine
end

section
/-! PROOFS. The state right after reset (R212): nothing is pending, so nothing can be accepted, and every legal vector can be posted. -/

namespace Sys2Proof.Machine

/-! ## An empty IRR -/

/-- Arbitration offers nothing while no vector is pending (R174). -/
theorem deliverable_of_irr_empty (l : Lapic) (h : l.irr = 0#256) : l.deliverable = none := by
  refine Option.eq_none_iff_forall_ne_some.mpr fun v hv => ?_
  have hpending := has_irr_of_deliverable l v hv
  rw [h, has_zero] at hpending
  cases hpending

/-- With nothing pending `intr_pending` is 0 (R175). -/
theorem intrPending_of_irr_empty (l : Lapic) (h : l.irr = 0#256) : l.intrPending = false := by
  rw [Lapic.intrPending, deliverable_of_irr_empty l h]
  rfl

/-! ## The edge-triggered Fixed message of a vector -/

/-- Bits 7:0 of a message are its vector (R187). -/
theorem bits_vector_of_setWidth (v : Vec) : bits (v.setWidth 40) 0 8 = v := by
  ext i hi
  simp [bits, hi, show i < 40 by omega]

/-- A message that is a vector alone has the delivery mode pattern of Fixed (R187). -/
theorem bits_mode_of_setWidth (v : Vec) : bits (v.setWidth 40) 8 3 = 0#3 := by
  ext i hi
  simp [bits]

/-- The Fixed message of a legal vector that IRR lacks is posted at once (R172, R187). -/
theorem exec_deliverIpi_setWidth_posts (s : State) (v : Vec) (hv : 16 ≤ v.toNat) (hnew : Bitmap.has s.self.irr v = false) :
    ∃ t, exec (.deliverIpi (v.setWidth 40)) s = .next t ∧ Bitmap.has t.self.irr v = true := by
  have hends := exec_deliverIpi_of_vector s (v.setWidth 40) (by rw [bits_mode_of_setWidth]; rfl)
  rw [bits_vector_of_setWidth] at hends
  obtain ⟨hlow, -⟩ | ⟨-, hpending, -⟩ | ⟨-, -, he⟩ := hends
  · exact absurd hv (Nat.not_le.mpr hlow)
  · cases hpending.symm.trans hnew
  · exact ⟨_, he, by simp⟩

/-! ## The reset state -/

/-- Every LVT register has the same reset value, whatever the parameters (R55, R143). -/
theorem lvt_reset (p : Params) (src : LvtSource) : (Lapic.reset p).lvt src = 0x00010000#32 := by
  cases src <;> rfl

/-- Every local source is masked after reset (R212). -/
theorem lvt_reset_masked (p : Params) (src : LvtSource) : ((Lapic.reset p).lvt src).getLsbD 16 = true := by
  rw [lvt_reset]
  rfl

/-- The reset value of LVT_TIMER selects OneShot (R158, R212). -/
theorem mode_reset (p : Params) : (Lapic.reset p).mode = .oneShot := by
  have htimer : (Lapic.reset p).lvtTimer = 0x00010000#32 := lvt_reset p .timer
  rw [Lapic.mode, htimer]
  rfl

/-- No count runs after reset: TCCR is zero, and the mode is OneShot (R48, R212). -/
theorem timerState_reset (p : Params) : (Lapic.reset p).timerState = .disarmed := by
  rw [Lapic.timerState, mode_reset]
  rfl

/-- TDCR is the code that selects 2 (R84, R212). -/
theorem divideValue_reset (p : Params) : (Lapic.reset p).divideValue = 2 :=
  divideValue_of_divideCode (n := 2) (e := 0#32) rfl rfl

/-- With nothing pending `ACCEPT` answers `real = 0` and the reset vector of SVR, 0xFF (R179, R212). -/
theorem exec_accept_reset : exec .accept State.reset = .next (State.reset.answered (.vec 0x0FF#9)) :=
  exec_accept_of_none State.reset (deliverable_of_irr_empty _ rfl)

/-- Settles O22. IRR is empty, which decides `intr_pending`, ACCEPT and the posts; the other items are read off `Lapic.reset`. -/
theorem resetStateIsArmedForNothing : Obligations.ResetStateIsArmedForNothing := by
  unfold Obligations.ResetStateIsArmedForNothing
  intro l
  have hirr : l.irr = 0#256 := rfl
  have hsvr : l.svr = 0x000001FF#32 := rfl
  have henabled : l.svr.getLsbD 8 = true := by rw [hsvr]; rfl
  refine ⟨timerState_reset _, mode_reset _, divideValue_reset _, lvt_reset_masked _, hirr, rfl, rfl,
    intrPending_of_irr_empty l hirr, exec_accept_reset, rfl, hsvr, henabled, rfl, BitVec.getLsbD_zero, fun v hv => ?_⟩
  have hnew : Bitmap.has l.irr v = false := by rw [hirr, has_zero]
  exact exec_deliverIpi_setWidth_posts State.reset v hv hnew

end Sys2Proof.Machine
end

section
/-! PROOFS. TICK (R162 to R164): the closed form the machine computes is the repetition of the one-tick step, on every state. -/

namespace Sys2Proof.Machine

/-! ## An expiry and the counts -/

/-- An expiry neither reads nor writes the count, the prescaler or the deadline (R159). -/
theorem expire_with_counts (l : Lapic) (c : Word) (p : Nat) (d : BitVec 64) :
    ({ l with tccr := c, presc := p, tscdl := d } : Lapic).expire = { l.expire with tccr := c, presc := p, tscdl := d } := by
  simp only [Lapic.expire, Lapic.post, Lapic.esrRecord]
  split_ifs <;> rfl

theorem expire_with_tccr_presc (l : Lapic) (c : Word) (p : Nat) :
    ({ l with tccr := c, presc := p } : Lapic).expire = { l.expire with tccr := c, presc := p } := by
  simpa using expire_with_counts l c p l.tscdl

/-- A second record of the same error changes nothing (R196). -/
theorem esrRecord_idem (l : Lapic) (b : Nat) : (l.esrRecord b).esrRecord b = l.esrRecord b := by
  obtain ⟨h, hon⟩ | ⟨h, -⟩ := esrRecord_cases l b
  · rw [h]
    simp [Lapic.esrRecord, hon, BitVec.or_assoc]
  · rw [h, h]

/-- A second post of a vector changes nothing: the first left it pending or was rejected (R172). -/
theorem post_idem (l : Lapic) (v : Vec) (tm : Trigger) : ((l.post v tm).2.post v tm).2 = (l.post v tm).2 := by
  obtain ⟨hlow, h⟩ | ⟨-, -, h⟩ | ⟨hv, -, h⟩ := post_cases l v tm
  · rw [h]
    simp [Lapic.post, hlow, esrReceivedIllegalVector, esrRecord_idem]
  · rw [h, h]
  · rw [h]
    simp [Lapic.post, Nat.not_lt.mpr hv]

/-- A second expiry before anything else happens changes nothing (R159). -/
theorem expire_idem (l : Lapic) : l.expire.expire = l.expire := by
  obtain ⟨-, h⟩ | ⟨hmask, h⟩ := expire_cases l
  · rw [h, h]
  · rw [h]
    simp only [Lapic.expire, post_lvtTimer, hmask, Bool.false_eq_true, if_false, post_idem]

/-! ## The closed form, case by case -/

/-- A timer that does not count stays as it is (R163). -/
theorem tickBy_of_stopped (l : Lapic) (n : Nat) (h : l.mode = .tscDeadline ∨ l.tccr = 0#32) : l.tickBy n = l := by
  rw [Lapic.tickBy, if_pos (h.imp_right Or.inl)]

@[simp] theorem tickBy_zero (l : Lapic) : l.tickBy 0 = l := by
  rw [Lapic.tickBy, if_pos (.inr (.inr rfl))]

/-- What `total` input ticks, counted from an empty prescaler, leave of a timer that counts (R164). -/
def Lapic.afterTotal (l : Lapic) (total : Nat) : Lapic :=
  let steps := total / l.divideValue
  let r := total % l.divideValue
  if steps < l.tccr.toNat then { l with tccr := BitVec.ofNat 32 (l.tccr.toNat - steps), presc := r }
  else if l.mode = .periodic ∧ l.ticr ≠ 0#32 then
    { l.expire with tccr := BitVec.ofNat 32 (l.ticr.toNat - (steps - l.tccr.toNat) % l.ticr.toNat), presc := r }
  else { l.expire with tccr := 0#32, presc := 0 }

theorem toNat_pos_of_ne_zero {w : Nat} {x : BitVec w} (h : x ≠ 0#w) : 0 < x.toNat := by
  rcases Nat.eq_zero_or_pos x.toNat with h0 | h0
  · exact absurd (BitVec.eq_of_toNat_eq (by simpa using h0)) h
  · exact h0

theorem afterTotal_of_below (l : Lapic) (total : Nat) (h : total / l.divideValue < l.tccr.toNat) :
    l.afterTotal total = { l with
      tccr := BitVec.ofNat 32 (l.tccr.toNat - total / l.divideValue), presc := total % l.divideValue } :=
  if_pos h

theorem afterTotal_of_reload (l : Lapic) (total : Nat) (h : l.tccr.toNat ≤ total / l.divideValue) (hmode : l.mode = .periodic)
    (hticr : l.ticr ≠ 0#32) : l.afterTotal total = { l.expire with
      tccr := BitVec.ofNat 32 (l.ticr.toNat - (total / l.divideValue - l.tccr.toNat) % l.ticr.toNat)
      presc := total % l.divideValue } :=
  (if_neg (Nat.not_lt.mpr h)).trans (if_pos ⟨hmode, hticr⟩)

theorem afterTotal_of_end (l : Lapic) (total : Nat) (h : l.tccr.toNat ≤ total / l.divideValue)
    (hend : ¬(l.mode = .periodic ∧ l.ticr ≠ 0#32)) : l.afterTotal total = { l.expire with tccr := 0#32, presc := 0 } :=
  (if_neg (Nat.not_lt.mpr h)).trans (if_neg hend)

/-- Below the divide value nothing is decremented: only the prescaler counts (R162). -/
theorem afterTotal_of_lt (l : Lapic) (total : Nat) (hcount : l.tccr ≠ 0#32) (h : total < l.divideValue) :
    l.afterTotal total = { l with presc := total } := by
  have hpos := toNat_pos_of_ne_zero hcount
  simp [Lapic.afterTotal, Nat.div_eq_of_lt h, Nat.mod_eq_of_lt h, hpos]

/-- TICK of a timer that counts adds its ticks to those in the prescaler (R164); a prescaler beyond its bound counts as full (log 15). -/
theorem tickBy_of_counting (l : Lapic) (n : Nat) (hmode : l.mode ≠ .tscDeadline) (hcount : l.tccr ≠ 0#32)
    (h : l.presc < l.divideValue ∨ n ≠ 0) : l.tickBy n = l.afterTotal (min l.presc (l.divideValue - 1) + n) := by
  by_cases hn : n = 0
  · have hp : l.presc < l.divideValue := h.resolve_right (not_not.mpr hn)
    have hmin : min l.presc (l.divideValue - 1) + n = l.presc := by omega
    rw [hmin, afterTotal_of_lt l _ hcount hp, hn, tickBy_zero]
  · rw [Lapic.tickBy, if_neg (by simp [hmode, hcount, hn])]
    rfl

/-- The count and the prescaler are all that `afterTotal` reads of them: two instances that agree elsewhere are left alike. -/
theorem afterTotal_with_presc (l : Lapic) (p total : Nat) : ({ l with presc := p } : Lapic).afterTotal total = l.afterTotal total := by
  have hexp : ({ l with presc := p } : Lapic).expire = { l.expire with presc := p } := by
    simpa using expire_with_tccr_presc l l.tccr p
  simp only [Lapic.afterTotal, hexp]
  rfl

/-! ## One tick first, then the others -/

/-- A whole divide period takes one from a count above 1 (R162). -/
theorem afterTotal_add_divideValue (l : Lapic) (n : Nat) (hcount : l.tccr ≠ 0#32) (hlast : l.tccr ≠ 1#32) :
    l.afterTotal (l.divideValue + n) = ({ l with presc := 0, tccr := l.tccr - 1#32 } : Lapic).afterTotal n := by
  have hd := (divideValue_bounds l).1
  have hpos := toNat_pos_of_ne_zero hcount
  have hc : (l.tccr - 1#32).toNat = l.tccr.toNat - 1 := by bv_omega
  have hone : l.tccr.toNat ≠ 1 := fun h => hlast (BitVec.eq_of_toNat_eq h)
  have hdiv : (l.divideValue + n) / l.divideValue = n / l.divideValue + 1 := by
    rw [Nat.add_comm, Nat.add_div_right _ hd]
  have hexp := expire_with_tccr_presc l (l.tccr - 1#32) 0
  have hlt : n / l.divideValue + 1 < l.tccr.toNat ↔ n / l.divideValue < l.tccr.toNat - 1 := by omega
  have hsub : l.tccr.toNat - (n / l.divideValue + 1) = l.tccr.toNat - 1 - n / l.divideValue := by omega
  have hsub' : n / l.divideValue + 1 - l.tccr.toNat = n / l.divideValue - (l.tccr.toNat - 1) := by omega
  have hmode : ({ l with presc := 0, tccr := l.tccr - 1#32 } : Lapic).mode = l.mode := rfl
  have hdv : ({ l with presc := 0, tccr := l.tccr - 1#32 } : Lapic).divideValue = l.divideValue := rfl
  simp only [Lapic.afterTotal, hmode, hdv, hc, hdiv, Nat.add_mod_left, hlt, hsub, hsub', hexp]

/-- An instance just after its expiry, its prescaler empty, with the count `c` (R162). -/
def Lapic.expired (l : Lapic) (c : Word) : Lapic := { l.expire with presc := 0, tccr := c }

@[simp] theorem expired_mode (l : Lapic) (c : Word) : (l.expired c).mode = l.mode := expire_mode l
@[simp] theorem expired_divideValue (l : Lapic) (c : Word) : (l.expired c).divideValue = l.divideValue := expire_divideValue l
@[simp] theorem expired_ticr (l : Lapic) (c : Word) : (l.expired c).ticr = l.ticr := expire_ticr l
@[simp] theorem expired_tccr (l : Lapic) (c : Word) : (l.expired c).tccr = c := rfl
@[simp] theorem expired_presc (l : Lapic) (c : Word) : (l.expired c).presc = 0 := rfl
@[simp] theorem expired_expire (l : Lapic) (c : Word) : (l.expired c).expire = l.expired c := by
  have h := expire_with_tccr_presc l.expire c 0
  rwa [expire_idem] at h

/-- A count of 1 that expires reloads in Periodic mode, and then goes on like one just written (R162, R164 c). -/
theorem afterTotal_of_last_reload (l : Lapic) (n : Nat) (hlast : l.tccr = 1#32) (hmode : l.mode = .periodic) (hticr : l.ticr ≠ 0#32) :
    l.afterTotal (l.divideValue + n) = (l.expired l.ticr).afterTotal n := by
  have hdiv : (l.divideValue + n) / l.divideValue = n / l.divideValue + 1 := by
    rw [Nat.add_comm, Nat.add_div_right _ (divideValue_bounds l).1]
  have hone : l.tccr.toNat = 1 := by rw [hlast]; rfl
  rw [afterTotal_of_reload l _ (by rw [hone, hdiv]; exact Nat.le_add_left _ _) hmode hticr, hdiv, hone, Nat.add_sub_cancel, Nat.add_mod_left]
  by_cases hround : n / l.divideValue < l.ticr.toNat
  · rw [afterTotal_of_below (l.expired l.ticr) n (by simpa using hround), Nat.mod_eq_of_lt hround, expired_divideValue]
    rfl
  · have hround' := Nat.not_lt.mp hround
    rw [afterTotal_of_reload (l.expired l.ticr) n (by simpa using hround') (by simpa using hmode) (by simpa using hticr),
      expired_divideValue, expired_ticr, expired_expire, Nat.mod_eq_sub_mod hround']
    rfl

/-- A whole divide period of a count of 1 expires (R162). -/
theorem afterTotal_of_last (l : Lapic) (n : Nat) (hmode : l.mode ≠ .tscDeadline) (hlast : l.tccr = 1#32) :
    l.afterTotal (l.divideValue + n) = (l.expired (if l.mode = .periodic then l.ticr else 0#32)).tickBy n := by
  have hd := (divideValue_bounds l).1
  by_cases hreload : l.mode = .periodic ∧ l.ticr ≠ 0#32
  · obtain ⟨hper, hticr⟩ := hreload
    have hpresc : min (l.expired l.ticr).presc ((l.expired l.ticr).divideValue - 1) + n = n := by simp
    rw [if_pos hper, afterTotal_of_last_reload l n hlast hper hticr,
      tickBy_of_counting (l.expired l.ticr) n (by simpa using hmode) hticr (.inl (by simp only [expired_presc, expired_divideValue]; exact hd)), hpresc]
  · have hzero : (if l.mode = .periodic then l.ticr else 0#32) = 0#32 := by
      split
      · rename_i hper
        exact not_not.mp fun hticr => hreload ⟨hper, hticr⟩
      · rfl
    have hone : l.tccr.toNat = 1 := by rw [hlast]; rfl
    have hperiod : 1 ≤ (l.divideValue + n) / l.divideValue := (Nat.one_le_div_iff hd).mpr (Nat.le_add_right _ _)
    rw [hzero, tickBy_of_stopped _ _ (.inr rfl), afterTotal_of_end l _ (by omega) hreload]
    rfl

/-- `n + 1` ticks are one tick and then `n` (R163). -/
theorem tickBy_succ (l : Lapic) (n : Nat) : l.tickBy (n + 1) = l.tickOne.tickBy n := by
  obtain ⟨hstop, h1⟩ | ⟨hmode, hcount, hcase⟩ := tickOne_cases l
  · rw [h1, tickBy_of_stopped l _ hstop, tickBy_of_stopped l _ hstop]
  · rw [tickBy_of_counting l (n + 1) hmode hcount (.inr (Nat.succ_ne_zero n))]
    obtain ⟨hp, h1⟩ | ⟨hp, hlast, h1⟩ | ⟨hp, hlast, h1⟩ := hcase <;> rw [h1]
    · have htotal : min l.presc (l.divideValue - 1) + (n + 1) = min (l.presc + 1) (l.divideValue - 1) + n := by omega
      rw [tickBy_of_counting { l with presc := l.presc + 1 } n hmode hcount (.inl hp), htotal]
      exact (afterTotal_with_presc l _ _).symm
    · have hd := (divideValue_bounds l).1
      have htotal : min l.presc (l.divideValue - 1) + (n + 1) = l.divideValue + n := by omega
      have hcount' : l.tccr - 1#32 ≠ 0#32 := fun h => hlast (by bv_omega)
      rw [htotal, afterTotal_add_divideValue l n hcount hlast,
        tickBy_of_counting { l with presc := 0, tccr := l.tccr - 1#32 } n hmode hcount' (.inl hd)]
      congr 1
      simp
    · have hd := (divideValue_bounds l).1
      have htotal : min l.presc (l.divideValue - 1) + (n + 1) = l.divideValue + n := by omega
      rw [htotal, afterTotal_of_last l n hmode hlast]
      rfl

/-- The closed form is the repetition (R163, R164). -/
theorem tickBy_eq_tickTimes (l : Lapic) (n : Nat) : l.tickBy n = l.tickTimes n := by
  induction n generalizing l with
  | zero => exact tickBy_zero l
  | succ n ih => rw [tickBy_succ, ih]; rfl

theorem exec_tick (n : BitVec 64) (s : State) : exec (.tick n) s = .next (s.updated (s.self.tickBy n.toNat)) := rfl

/-- Settles O28. One tick can be split off the closed form (`tickBy_succ`); induction on the count does the rest. -/
theorem tickIsThatManySingleTicks : Obligations.TickIsThatManySingleTicks := fun s n => by
  rw [exec_tick, tickBy_eq_tickTimes]

/-- Ticks repeat: `m` of them and then `n` are `m + n` (R163). -/
theorem tickTimes_add (l : Lapic) (m n : Nat) : l.tickTimes (m + n) = (l.tickTimes m).tickTimes n := by
  induction m generalizing l with
  | zero => rw [Nat.zero_add]; rfl
  | succ m ih => rw [Nat.succ_add]; exact ih l.tickOne

/-- Settles O31. Repetitions add up, and the sum of the two counts does not wrap. -/
theorem ticksAddUp : Obligations.TicksAddUp := by
  intro s t a b hsum h
  cases (exec_tick a s).symm.trans h
  have hab : (a + b).toNat = a.toNat + b.toNat := by rw [BitVec.toNat_add, Nat.mod_eq_of_lt hsum]
  rw [exec_tick, exec_tick, hab, tickBy_eq_tickTimes, tickBy_eq_tickTimes _ (_ + _), tickTimes_add, updated_self, tickBy_eq_tickTimes]
  rfl

/-- A single tick (R162). -/
theorem exec_tick_one (s : State) : exec (.tick 1#64) s = .next (s.updated s.self.tickOne) := by
  rw [exec_tick, tickBy_eq_tickTimes]
  rfl

/-! ## One tick by its case (R162) -/

theorem tickOne_of_stopped (l : Lapic) (h : l.mode = .tscDeadline ∨ l.tccr = 0#32) : l.tickOne = l := if_pos h

theorem tickOne_of_below (l : Lapic) (hmode : l.mode ≠ .tscDeadline) (hcount : l.tccr ≠ 0#32) (hp : l.presc + 1 < l.divideValue) :
    l.tickOne = { l with presc := l.presc + 1 } := by
  obtain ⟨hstop, -⟩ | ⟨-, -, ⟨-, h⟩ | ⟨hp', -⟩ | ⟨hp', -⟩⟩ := tickOne_cases l
  · exact absurd hstop (not_or.mpr ⟨hmode, hcount⟩)
  · exact h
  · omega
  · omega

theorem tickOne_of_count (l : Lapic) (hmode : l.mode ≠ .tscDeadline) (hp : l.presc + 1 = l.divideValue) (hcount : 1#32 < l.tccr) :
    l.tickOne = { l with presc := 0, tccr := l.tccr - 1#32 } := by
  obtain ⟨hstop, -⟩ | ⟨-, -, ⟨hp', -⟩ | ⟨-, -, h⟩ | ⟨-, hlast, -⟩⟩ := tickOne_cases l
  · have hzero : l.tccr = 0#32 := hstop.resolve_left hmode
    rw [hzero] at hcount
    exact absurd hcount (by decide)
  · omega
  · exact h
  · rw [hlast] at hcount
    exact absurd hcount (by decide)

theorem tickOne_of_last (l : Lapic) (hmode : l.mode ≠ .tscDeadline) (hp : l.presc + 1 = l.divideValue) (hlast : l.tccr = 1#32) :
    l.tickOne = { l.expire with presc := 0, tccr := if l.mode = .periodic then l.ticr else 0#32 } := by
  obtain ⟨hstop, -⟩ | ⟨-, -, ⟨hp', -⟩ | ⟨-, hlast', -⟩ | ⟨-, -, h⟩⟩ := tickOne_cases l
  · exact absurd hstop (not_or.mpr ⟨hmode, by rw [hlast]; decide⟩)
  · omega
  · exact absurd hlast hlast'
  · exact h

/-- Settles O29. Each clause is one case of the single tick. -/
theorem oneTickCountsOrExpires : Obligations.OneTickCountsOrExpires := by
  intro s l
  rw [exec_tick_one]
  refine ⟨fun hstop => ?_, fun hmode hcount hp => ?_, fun hmode hp hcount => ?_, fun hone hp hlast => ?_, fun hper hp hlast => ?_⟩
  · rw [tickOne_of_stopped l hstop]
    rfl
  · rw [tickOne_of_below l hmode hcount hp]
  · rw [tickOne_of_count l hmode hp hcount]
  · rw [tickOne_of_last l (by rw [hone]; decide) hp hlast, if_neg (by rw [hone]; decide)]
  · rw [tickOne_of_last l (by rw [hper]; decide) hp hlast, if_pos hper]

/-! ## The closed form within the bounds of the counts (R164) -/

theorem ofNat_toNat_sub {w : Nat} (x : BitVec w) (k : Nat) (h : k ≤ x.toNat) : BitVec.ofNat w (x.toNat - k) = x - BitVec.ofNat w k := by
  have hk : k < 2 ^ w := Nat.lt_of_le_of_lt h x.isLt
  apply BitVec.eq_of_toNat_eq
  rw [BitVec.toNat_sub_of_le (by rw [BitVec.le_def, BitVec.toNat_ofNat, Nat.mod_eq_of_lt hk]; exact h), BitVec.toNat_ofNat,
    BitVec.toNat_ofNat, Nat.mod_eq_of_lt hk, Nat.mod_eq_of_lt (by omega)]

/-- With the prescaler below the divide value, TICK counts on from it (R164). -/
theorem tickBy_of_bounded (l : Lapic) (n : Nat) (hmode : l.mode ≠ .tscDeadline) (hcount : l.tccr ≠ 0#32)
    (hp : l.presc < l.divideValue) : l.tickBy n = l.afterTotal (l.presc + n) := by
  have hmin : min l.presc (l.divideValue - 1) = l.presc := by omega
  rw [tickBy_of_counting l n hmode hcount (.inl hp), hmin]

/-- Settles O30. With the counts in bounds the closed form starts from the prescaler as it is, and the reload value is not zero. -/
theorem tickClosedForm : Obligations.TickClosedForm := by
  intro s n l d steps r k hbounds
  obtain ⟨hle, hp⟩ := hbounds
  rw [exec_tick]
  refine ⟨fun hstop => ?_, fun hmode hcount hbelow => ?_, fun hone hcount hend => ?_, fun hper hcount hend => ?_⟩
  · rw [tickBy_of_stopped l _ hstop]
    rfl
  · rw [tickBy_of_bounded l _ hmode hcount hp, afterTotal_of_below l _ hbelow, ofNat_toNat_sub _ _ (Nat.le_of_lt hbelow)]
  · rw [tickBy_of_bounded l _ (by rw [hone]; decide) hcount hp, afterTotal_of_end l _ hend (by simp [hone])]
  · have hticr : l.ticr ≠ 0#32 := fun h => hcount (BitVec.le_zero_iff.mp (h ▸ hle))
    have hmod : k % l.ticr.toNat ≤ l.ticr.toNat := Nat.le_of_lt (Nat.mod_lt _ (toNat_pos_of_ne_zero hticr))
    rw [tickBy_of_bounded l _ (by rw [hper]; decide) hcount hp, afterTotal_of_reload l _ hend hper hticr, ofNat_toNat_sub _ _ hmod]

end Sys2Proof.Machine
end

section
/-! PROOFS. TICK_TSC (R168), and the state of the timer after each event (R48, R169). -/

namespace Sys2Proof.Machine

/-! ## TICK_TSC -/

/-- A deadline that is armed and has been reached expires and is cleared (R168). -/
theorem exec_tickTsc_of_reached (s : State) (now : BitVec 64) (hmode : s.self.mode = .tscDeadline) (harmed : s.self.tscdl ≠ 0#64)
    (hreached : s.self.tscdl ≤ now) : exec (.tickTsc now) s = .next (s.updated { s.self.expire with tscdl := 0#64 }) :=
  if_pos ⟨hmode, harmed, hreached⟩

/-- Any other TICK_TSC changes nothing (R168). -/
theorem exec_tickTsc_of_not_reached (s : State) (now : BitVec 64)
    (h : s.self.mode ≠ .tscDeadline ∨ s.self.tscdl = 0#64 ∨ now < s.self.tscdl) :
    exec (.tickTsc now) s = .next (s.answered .none) := by
  refine if_neg ?_
  rintro ⟨hmode, harmed, hreached⟩
  obtain h | h | h := h
  · exact h hmode
  · exact harmed h
  · exact BitVec.not_le.mpr h hreached

/-- Settles O32. The one condition of TICK_TSC is that the deadline is in use, armed and reached. -/
theorem deadlineExpiresOnceAtOrAfterIt : Obligations.DeadlineExpiresOnceAtOrAfterIt := fun s now =>
  ⟨exec_tickTsc_of_reached s now, exec_tickTsc_of_not_reached s now, rfl⟩

/-! ## The state of the timer, by its mode (R48) -/

theorem timerState_of_countdown (l : Lapic) (h : l.mode ≠ .tscDeadline) :
    l.timerState = if l.tccr = 0#32 then .disarmed else .running := by
  unfold Lapic.timerState
  cases hm : l.mode with
  | oneShot | periodic => exact ite_not ..
  | tscDeadline => exact absurd hm h

theorem timerState_of_deadline (l : Lapic) (h : l.mode = .tscDeadline) :
    l.timerState = if l.tscdl = 0#64 then .disarmed else .running := by
  rw [Lapic.timerState, h]
  exact ite_not ..

/-- The state depends on the mode, the count and the deadline alone. -/
theorem timerState_congr {l l' : Lapic} (hmode : l.mode = l'.mode) (htccr : l.tccr = l'.tccr) (htscdl : l.tscdl = l'.tscdl) :
    l.timerState = l'.timerState := by
  rw [Lapic.timerState, Lapic.timerState, hmode, htccr, htscdl]

/-- A disarmed timer is disarmed in whatever mode it is put (R165). -/
theorem timerState_timerDisarm (l : Lapic) : l.timerDisarm.timerState = .disarmed := by
  by_cases h : l.timerDisarm.mode = .tscDeadline
  · rw [timerState_of_deadline _ h]; rfl
  · rw [timerState_of_countdown _ h]; rfl

theorem tccr_ne_zero_of_running (l : Lapic) (hmode : l.mode ≠ .tscDeadline) (h : l.timerState = .running) : l.tccr ≠ 0#32 := by
  intro h0
  rw [timerState_of_countdown l hmode, if_pos h0] at h
  cases h

/-! ## Writes -/

theorem timerState_wrTicr (s : State) (v : Word) (hmode : s.self.mode ≠ .tscDeadline) :
    ({ s.self with ticr := v, tccr := v, presc := 0 } : Lapic).timerState = if v = 0#32 then .disarmed else .running :=
  timerState_of_countdown _ hmode

/-- WR_LVT_TIMER leaves the state as it was when the mode field stays, and disarms when it changes (R123, R169). -/
theorem timerState_wrLvtTimer (s t : State) (v : Word) (h : exec (.wrLvtTimer v) s = .next t) :
    (bits t.self.lvtTimer 17 2 = bits s.self.lvtTimer 17 2 → t.self.timerState = s.self.timerState) ∧
    (bits t.self.lvtTimer 17 2 ≠ bits s.self.lvtTimer 17 2 → t.self.timerState = .disarmed) := by
  cases (exec_wrLvtTimer v s).symm.trans h
  simp only [updated_self]
  split <;> rename_i hfield
  · refine ⟨fun _ => timerState_congr ?_ rfl rfl, fun hne => absurd hfield hne⟩
    exact congrArg TimerMode.ofBits hfield
  · exact ⟨fun heq => absurd heq hfield, fun _ => timerState_timerDisarm _⟩

/-! ## Ticks -/

/-- TICK_TSC disarms exactly when the deadline is reached; a deadline of 0 is disarmed already (R168, R169). -/
theorem timerState_tickTsc (s t : State) (now : BitVec 64) (hmode : s.self.mode = .tscDeadline)
    (h : exec (.tickTsc now) s = .next t) :
    t.self.timerState = if s.self.tscdl ≤ now then .disarmed else s.self.timerState := by
  by_cases hreached : s.self.tscdl ≤ now
  · rw [if_pos hreached]
    by_cases harmed : s.self.tscdl = 0#64
    · cases (exec_tickTsc_of_not_reached s now (.inr (.inl harmed))).symm.trans h
      rw [answered_self, timerState_of_deadline _ hmode, if_pos harmed]
    · cases (exec_tickTsc_of_reached s now hmode harmed hreached).symm.trans h
      rw [updated_self, timerState_of_deadline { s.self.expire with tscdl := 0#64 } ((expire_mode s.self).trans hmode)]
      rfl
  · cases (exec_tickTsc_of_not_reached s now (.inr (.inr (BitVec.not_le.mp hreached)))).symm.trans h
    rw [if_neg hreached, answered_self]

/-- A Disarmed timer takes no tick (R169). -/
theorem tickBy_of_disarmed (l : Lapic) (n : Nat) (h : l.timerState = .disarmed) : l.tickBy n = l := by
  refine tickBy_of_stopped l n (or_iff_not_imp_left.mpr fun hmode => ?_)
  by_contra hcount
  rw [timerState_of_countdown l hmode, if_neg hcount] at h
  cases h

/-- A Periodic timer with a reload value never counts to rest (R162). -/
theorem tickOne_tccr_ne_zero (l : Lapic) (hmode : l.mode = .periodic) (hticr : l.ticr ≠ 0#32) (hcount : l.tccr ≠ 0#32) :
    l.tickOne.tccr ≠ 0#32 := by
  obtain ⟨-, h⟩ | ⟨-, -, ⟨-, h⟩ | ⟨-, hlast, h⟩ | ⟨-, -, h⟩⟩ := tickOne_cases l <;> rw [h]
  · exact hcount
  · exact hcount
  · exact fun h0 => hlast (by bv_omega)
  · rw [if_pos hmode]
    exact hticr

theorem tickTimes_tccr_ne_zero (l : Lapic) (n : Nat) (hmode : l.mode = .periodic) (hticr : l.ticr ≠ 0#32) (hcount : l.tccr ≠ 0#32) :
    (l.tickTimes n).tccr ≠ 0#32 := by
  induction n generalizing l with
  | zero => exact hcount
  | succ n ih =>
    exact ih l.tickOne ((tickOne_mode l).trans hmode) (by rw [tickOne_ticr]; exact hticr) (tickOne_tccr_ne_zero l hmode hticr hcount)

/-- A OneShot timer ends when the ticks make as many divide periods as its count (R164, R169). -/
theorem tickBy_tccr_of_oneShot (l : Lapic) (n : Nat) (hmode : l.mode = .oneShot) (hcount : l.tccr ≠ 0#32)
    (hp : l.presc < l.divideValue) : (l.tickBy n).tccr = 0#32 ↔ l.tccr.toNat ≤ (l.presc + n) / l.divideValue := by
  rw [tickBy_of_bounded l n (by rw [hmode]; decide) hcount hp]
  by_cases hend : l.tccr.toNat ≤ (l.presc + n) / l.divideValue
  · rw [afterTotal_of_end l _ hend (by simp [hmode])]
    exact iff_of_true rfl hend
  · have hbelow := Nat.not_le.mp hend
    have hsmall : l.tccr.toNat - (l.presc + n) / l.divideValue < 2 ^ 32 := Nat.lt_of_le_of_lt (Nat.sub_le _ _) l.tccr.isLt
    rw [afterTotal_of_below l _ hbelow]
    refine iff_of_false (fun h0 => ?_) hend
    have hleft := congrArg BitVec.toNat h0
    rw [BitVec.toNat_ofNat, Nat.mod_eq_of_lt hsmall] at hleft
    exact Nat.sub_ne_zero_of_lt hbelow hleft

theorem timerState_tick_oneShot (l : Lapic) (n : Nat) (hmode : l.mode = .oneShot) (hrun : l.timerState = .running)
    (hp : l.presc < l.divideValue) :
    (l.tickBy n).timerState = if l.tccr.toNat ≤ (l.presc + n) / l.divideValue then .disarmed else .running := by
  have hcountdown : l.mode ≠ .tscDeadline := by rw [hmode]; decide
  rw [timerState_of_countdown _ (by rw [tickBy_mode]; exact hcountdown)]
  simp only [tickBy_tccr_of_oneShot l n hmode (tccr_ne_zero_of_running l hcountdown hrun) hp]

/-- One tick makes a divide period exactly when it fills the prescaler. -/
theorem le_div_one_tick (count p d : Nat) (hcount : 0 < count) (hp : p < d) : count ≤ (p + 1) / d ↔ p + 1 = d ∧ count = 1 := by
  by_cases hfull : p + 1 = d
  · rw [hfull, Nat.div_self (by omega)]
    omega
  · rw [Nat.div_eq_of_lt (by omega)]
    omega

/-- Settles O33. Each event's end state is known from its own lemma; the timer's state is read off its mode, count and deadline. -/
theorem timerStateAfterEachEvent : Obligations.TimerStateAfterEachEvent := by
  intro s t v d n was now
  refine ⟨fun hmode h => ?_, fun h => ?_, fun h => (timerState_wrLvtTimer s t v h).1, fun h => (timerState_wrLvtTimer s t v h).2,
    fun h => ?_, fun hmode h => ?_, fun hmode h => ?_, timerState_tickTsc s t n, fun hmode h => ?_, fun hwas h => ?_,
    fun hmode hticr hwas h => ?_, fun hmode hwas hbounds h => ?_, fun hmode hwas hbounds h => ?_⟩
  · rw [exec_wrTicr, if_neg hmode] at h
    cases h
    exact timerState_wrTicr s v hmode
  · cases (exec_wrTdcr v s).symm.trans h
    exact timerState_congr rfl rfl rfl
  · cases h
    exact timerState_reset _
  · obtain h | h := h
    · rw [exec_wrTicr, if_pos hmode] at h
      cases h
      exact timerState_congr rfl rfl rfl
    · rw [exec_tick, tickBy_of_stopped _ _ (.inl hmode)] at h
      cases h
      rfl
  · rw [exec_wrTscdl, if_pos hmode] at h
    cases h
    exact timerState_of_deadline _ hmode
  · obtain h | h := h
    · rw [exec_wrTscdl, if_neg hmode] at h
      cases h
      rfl
    · cases (exec_tickTsc_of_not_reached s n (.inl hmode)).symm.trans h
      rfl
  · rw [exec_tick, tickBy_of_disarmed _ _ hwas] at h
    cases h
    exact hwas
  · have hcountdown : s.self.mode ≠ .tscDeadline := by rw [hmode]; decide
    cases (exec_tick n s).symm.trans h
    change (s.self.tickBy n.toNat).timerState = _
    rw [timerState_of_countdown _ (by rw [tickBy_mode]; exact hcountdown), tickBy_eq_tickTimes]
    exact if_neg (tickTimes_tccr_ne_zero _ _ hmode hticr (tccr_ne_zero_of_running _ hcountdown hwas))
  · cases (exec_tick n s).symm.trans h
    exact timerState_tick_oneShot s.self n.toNat hmode hwas hbounds.2
  · have hcount := toNat_pos_of_ne_zero (tccr_ne_zero_of_running s.self (by rw [hmode]; decide) hwas)
    have hone : s.self.tccr.toNat = 1 ↔ s.self.tccr = 1#32 := by rw [BitVec.toNat_eq]; rfl
    cases (exec_tick 1#64 s).symm.trans h
    have hstate := timerState_tick_oneShot s.self 1 hmode hwas hbounds.2
    simp only [le_div_one_tick _ _ _ hcount hbounds.2, hone] at hstate
    exact hstate

end Sys2Proof.Machine
end

section
/-! PROOFS. What an operation can do to the instance it is performed on, one case per kind of change, and the two inductions that rest on
it: a property that every change keeps is kept, in every instance, by every operation and by every step. -/

namespace Sys2Proof.Machine

/-- The operations that fire a local source (R151 to R156). -/
def Instr.IsFire (i : Instr) : Prop :=
  i ∈ [Instr.lvtFireCmci, .lvtFireThermal, .lvtFirePerfmon, .lvtFireLint0, .lvtFireLint1, .lvtFireError]

/-- The LVT registers but the timer's, each with its source (R144). -/
def lvtEntries : List (Reg × LvtSource) :=
  [(.lvtCmci, .cmci), (.lvtThermal, .thermal), (.lvtPerfmon, .perfmon), (.lvtLint0, .lint0), (.lvtLint1, .lint1), (.lvtError, .error)]

/-- The instance with another LVT register for a source (R144). -/
def Lapic.withLvt (l : Lapic) : LvtSource → Word → Lapic
  | .timer, w => { l with lvtTimer := w }
  | .thermal, w => { l with lvtThermal := w }
  | .perfmon, w => { l with lvtPerfmon := w }
  | .lint0, w => { l with lvtLint0 := w }
  | .lint1, w => { l with lvtLint1 := w }
  | .error, w => { l with lvtError := w }
  | .cmci, w => { l with lvtCmci := w }

theorem withLvt_lvt (l : Lapic) (src src' : LvtSource) (w : Word) :
    (l.withLvt src w).lvt src' = if src' = src then w else l.lvt src' := by
  cases src <;> cases src' <;> rfl

@[simp] theorem withLvt_par (l : Lapic) (src : LvtSource) (w : Word) : (l.withLvt src w).par = l.par := by cases src <;> rfl
@[simp] theorem withLvt_tpr (l : Lapic) (src : LvtSource) (w : Word) : (l.withLvt src w).tpr = l.tpr := by cases src <;> rfl
@[simp] theorem withLvt_ldr (l : Lapic) (src : LvtSource) (w : Word) : (l.withLvt src w).ldr = l.ldr := by cases src <;> rfl
@[simp] theorem withLvt_dfr (l : Lapic) (src : LvtSource) (w : Word) : (l.withLvt src w).dfr = l.dfr := by cases src <;> rfl
@[simp] theorem withLvt_svr (l : Lapic) (src : LvtSource) (w : Word) : (l.withLvt src w).svr = l.svr := by cases src <;> rfl
@[simp] theorem withLvt_isr (l : Lapic) (src : LvtSource) (w : Word) : (l.withLvt src w).isr = l.isr := by cases src <;> rfl
@[simp] theorem withLvt_tmr (l : Lapic) (src : LvtSource) (w : Word) : (l.withLvt src w).tmr = l.tmr := by cases src <;> rfl
@[simp] theorem withLvt_irr (l : Lapic) (src : LvtSource) (w : Word) : (l.withLvt src w).irr = l.irr := by cases src <;> rfl
@[simp] theorem withLvt_esr (l : Lapic) (src : LvtSource) (w : Word) : (l.withLvt src w).esr = l.esr := by cases src <;> rfl
@[simp] theorem withLvt_icrLo (l : Lapic) (src : LvtSource) (w : Word) : (l.withLvt src w).icrLo = l.icrLo := by cases src <;> rfl
@[simp] theorem withLvt_icrHi (l : Lapic) (src : LvtSource) (w : Word) : (l.withLvt src w).icrHi = l.icrHi := by cases src <;> rfl
@[simp] theorem withLvt_ticr (l : Lapic) (src : LvtSource) (w : Word) : (l.withLvt src w).ticr = l.ticr := by cases src <;> rfl
@[simp] theorem withLvt_tccr (l : Lapic) (src : LvtSource) (w : Word) : (l.withLvt src w).tccr = l.tccr := by cases src <;> rfl
@[simp] theorem withLvt_tdcr (l : Lapic) (src : LvtSource) (w : Word) : (l.withLvt src w).tdcr = l.tdcr := by cases src <;> rfl
@[simp] theorem withLvt_tscdl (l : Lapic) (src : LvtSource) (w : Word) : (l.withLvt src w).tscdl = l.tscdl := by cases src <;> rfl
@[simp] theorem withLvt_presc (l : Lapic) (src : LvtSource) (w : Word) : (l.withLvt src w).presc = l.presc := by cases src <;> rfl

/-- What operation `i` can leave of the instance `l` it is performed on. -/
inductive SelfChange (l : Lapic) : Instr → Lapic → Prop
  /-- A read, a dropped write, a refused or idle operation. -/
  | none (i : Instr) : SelfChange l i l
  | reset : SelfChange l .reset (Lapic.reset l.par)
  | tpr (v : Word) : SelfChange l (.wrTpr v) { l with tpr := v &&& writeMask .tpr }
  | ldr (v : Word) : SelfChange l (.wrLdr v) { l with ldr := v &&& writeMask .ldr }
  | dfr (v : Word) : SelfChange l (.wrDfr v) { l with dfr := v &&& writeMask .dfr }
  | svr (v : Word) : SelfChange l (.wrSvr v) { l with svr := v &&& writeMask .svr }
  | icrHi (v : Word) : SelfChange l (.wrIcrHi v) { l with icrHi := v &&& writeMask .icrHi }
  | tdcr (v : Word) : SelfChange l (.wrTdcr v) { l with tdcr := v &&& writeMask .tdcr, presc := 0 }
  | ticr (v : Word) : SelfChange l (.wrTicr v)
      { l with ticr := v, presc := 0, tccr := if l.mode = .tscDeadline then l.tccr else v }
  | tscdl (d : BitVec 64) (h : l.mode = .tscDeadline) : SelfChange l (.wrTscdl d) { l with tscdl := d }
  /-- A write of an LVT register other than the timer's (R91). -/
  | lvt (r : Reg) (src : LvtSource) (hr : (r, src) ∈ lvtEntries) (v : Word) :
      SelfChange l (wrOf r v) (l.withLvt src (lvtStored r src v (l.lvt src)))
  /-- The mode field of LVT_TIMER stays (R123). -/
  | lvtTimerKept (v : Word) (h : bits (lvtStored .lvtTimer .timer v l.lvtTimer) 17 2 = bits l.lvtTimer 17 2) :
      SelfChange l (.wrLvtTimer v) { l with lvtTimer := lvtStored .lvtTimer .timer v l.lvtTimer }
  /-- The mode field of LVT_TIMER changes, which disarms the timer (R165). -/
  | lvtTimerDisarmed (v : Word) :
      SelfChange l (.wrLvtTimer v) ({ l with lvtTimer := lvtStored .lvtTimer .timer v l.lvtTimer } : Lapic).timerDisarm
  | tick (n : BitVec 64) : SelfChange l (.tick n) (l.tickTimes n.toNat)
  | deadline (now : BitVec 64) (h : l.mode = .tscDeadline) : SelfChange l (.tickTsc now) { l.expire with tscdl := 0#64 }
  | accept (v : Vec) (h : l.deliverable = some v) : SelfChange l .accept (l.accept v)
  | eoi (x : Word) : SelfChange l (.wrEoi x) l.eoi
  /-- A local event whose vector is rejected (R150). -/
  | fireRejected (i : Instr) (hi : Instr.IsFire i) : SelfChange l i (l.esrRecord 6)
  /-- A local event that is posted, edge-triggered or level-triggered (R150). -/
  | fireEdge (i : Instr) (hi : Instr.IsFire i) (v : Vec) : SelfChange l i (l.post v .edge).2
  | fireLevel (i : Instr) (hi : Instr.IsFire i) (src : LvtSource) (v : Vec) :
      SelfChange l i ((l.post v .level).2.setRemoteIrr src)
  | deliver (msg : BitVec 40) : SelfChange l (.deliverIpi msg) (l.deliver msg).lapic
  /-- A send that fails (R183). -/
  | sendFailed (v : Word) (b : Nat) (hb : b = 2 ∨ b = 5) :
      SelfChange l (.wrIcrLo v) (({ l with icrLo := icrLoStored v } : Lapic).esrRecord b)
  /-- A send whose sender is no target. -/
  | sent (v : Word) : SelfChange l (.wrIcrLo v) { l with icrLo := icrLoStored v }
  /-- A send whose sender is a target. -/
  | sentToSelf (v : Word) (msg : BitVec 40) :
      SelfChange l (.wrIcrLo v) (({ l with icrLo := icrLoStored v } : Lapic).deliver msg).lapic

/-! ## Every operation makes one of these changes -/

theorem fire_selfChange (i : Instr) (hi : Instr.IsFire i) (s t : State) (src : LvtSource) (h : s.fire src = .next t) :
    SelfChange s.self i t.self := by
  obtain ⟨-, hf⟩ | ⟨-, -, ⟨-, hf⟩ | ⟨-, -, hf⟩ | ⟨-, -, hf⟩⟩ | ⟨-, k, -, hf⟩ := fire_cases s src <;> cases hf.symm.trans h
  case inr.inl.inl => exact .fireRejected i hi
  case inr.inl.inr.inr =>
    cases ht : (decodeLvt src (s.self.lvt src)).trigger with
    | edge => exact .fireEdge i hi _
    | level => exact .fireLevel i hi src _
  all_goals exact .none i

theorem wrIcrLo_selfChange (v : Word) (s t : State) (h : exec (.wrIcrLo v) s = .next t) : SelfChange s.self (.wrIcrLo v) t.self := by
  rw [exec_wrIcrLo] at h
  obtain ⟨b, e, hb, hsend⟩ | ⟨targets, n, hsend⟩ := send_cases { s with self := { s.self with icrLo := icrLoStored v } }
  · cases hsend.symm.trans h
    exact .sendFailed v b hb
  · cases hsend.symm.trans h
    dsimp only
    split
    · exact .sentToSelf v _
    · exact .sent v

/-- What an operation can do to the instance it is performed on. -/
theorem exec_selfChange (i : Instr) (s t : State) (h : exec i s = .next t) : SelfChange s.self i t.self := by
  cases i with
  | wrTpr v => cases h; exact .tpr v
  | wrLdr v => cases h; exact .ldr v
  | wrDfr v => cases h; exact .dfr v
  | wrSvr v => cases h; exact .svr v
  | wrIcrHi v => cases h; exact .icrHi v
  | wrTdcr v => cases h; exact .tdcr v
  | wrTicr v => cases h; exact .ticr v
  | wrLvtCmci v => cases h; exact .lvt .lvtCmci .cmci (by decide) v
  | wrLvtThermal v => cases h; exact .lvt .lvtThermal .thermal (by decide) v
  | wrLvtPerfmon v => cases h; exact .lvt .lvtPerfmon .perfmon (by decide) v
  | wrLvtLint0 v => cases h; exact .lvt .lvtLint0 .lint0 (by decide) v
  | wrLvtLint1 v => cases h; exact .lvt .lvtLint1 .lint1 (by decide) v
  | wrLvtError v => cases h; exact .lvt .lvtError .error (by decide) v
  | wrEoi x => cases h; exact .eoi x
  | reset => cases h; exact .reset
  | wrIcrLo v => exact wrIcrLo_selfChange v s t h
  | wrTscdl d =>
    cases (exec_wrTscdl d s).symm.trans h
    rw [updated_self]
    split
    · exact .tscdl d ‹_›
    · exact .none _
  | wrLvtTimer v =>
    cases (exec_wrLvtTimer v s).symm.trans h
    rw [updated_self]
    split
    · exact .lvtTimerKept v ‹_›
    · exact .lvtTimerDisarmed v
  | tick n =>
    cases (exec_tick n s).symm.trans h
    rw [updated_self, tickBy_eq_tickTimes]
    exact .tick n
  | tickTsc now =>
    by_cases hreached : s.self.mode = .tscDeadline ∧ s.self.tscdl ≠ 0#64 ∧ s.self.tscdl ≤ now
    · obtain ⟨hmode, harmed, hle⟩ := hreached
      cases (exec_tickTsc_of_reached s now hmode harmed hle).symm.trans h
      exact .deadline now hmode
    · cases (if_neg hreached : exec (.tickTsc now) s = _).symm.trans h
      exact .none _
  | pendingVector => obtain ⟨o, he⟩ := execPendingVector_ends s; cases he.symm.trans h; exact .none _
  | accept =>
    cases hd : s.self.deliverable with
    | none => cases (exec_accept_of_none s hd).symm.trans h; exact .none _
    | some v => cases (exec_accept_of_deliverable s v hd).symm.trans h; exact .accept v hd
  | deliverIpi msg => obtain ⟨o, he⟩ := execDeliverIpi_ends msg s; cases he.symm.trans h; exact .deliver msg
  | lvtFireCmci | lvtFireThermal | lvtFirePerfmon | lvtFireLint0 | lvtFireLint1 | lvtFireError =>
    exact fire_selfChange _ (by simp [Instr.IsFire]) s t _ h
  | _ => cases h; exact .none _

/-! ## Properties that every change keeps -/

/-- A property of instances that every operation keeps in the instance it is performed on. -/
def KeptByEveryChange (P : Lapic → Prop) : Prop := ∀ (l : Lapic) (i : Instr) (l' : Lapic), SelfChange l i l' → P l → P l'

/-- A property of instances is kept by every operation in every instance: the peers change by `DELIVER_IPI` alone (R188). -/
theorem exec_every {P : Lapic → Prop} (hP : KeptByEveryChange P) (i : Instr) (s t : State) (hs : s.Every P) (h : exec i s = .next t) :
    t.Every P := by
  have hself : P t.self := hP s.self i t.self (exec_selfChange i s t h) (hs s.self (List.mem_cons_self ..))
  have hpeers : ∀ p ∈ s.peers, P p := fun p hp => hs p (List.mem_cons_of_mem _ hp)
  refine List.forall_mem_cons.mpr ⟨hself, ?_⟩
  obtain hsame | ⟨targets, msg, hdelivered⟩ := exec_peers_cases i s t h
  · rw [hsame]
    exact hpeers
  · rw [hdelivered]
    simp only [List.mem_map, forall_exists_index, and_imp, forall_apply_eq_imp_iff₂]
    intro p hp
    split
    · exact hP p _ _ (.deliver msg) (hpeers p hp)
    · exact hpeers p hp

/-- Such a property is kept by every step in every instance. -/
theorem step_every {P : Lapic → Prop} (hP : KeptByEveryChange P) (s t : State) (hs : s.Every P) (h : step s = .next t) :
    t.Every P := by
  obtain ⟨-, hidle⟩ | ⟨p, rest, -, ⟨-, hfault⟩ | ⟨u, hfocus, ⟨cmd, -, hop⟩ | ⟨target, -, hlook⟩⟩⟩ := step_cases s
  · cases hidle.symm.trans h
    exact hs
  · cases hfault.symm.trans h
  · refine exec_every hP (decode cmd) u.takeLooks t (fun l hl => hs l ?_) (hop.symm.trans h)
    exact focus_mem { s with queue := rest } u p.cpu hfocus l hl
  · cases hlook.symm.trans h
    intro l hl
    rw [look_vcpus] at hl
    exact hs l hl

/-- A property that one tick keeps is kept by any number of them. -/
theorem tickTimes_induction {P : Lapic → Prop} (hone : ∀ l, P l → P l.tickOne) (l : Lapic) (n : Nat) (h : P l) : P (l.tickTimes n) := by
  induction n generalizing l with
  | zero => exact h
  | succ n ih => exact ih l.tickOne (hone l h)

end Sys2Proof.Machine
end

section
/-! PROOFS. Posting (R172), arbitration (R173 to R176) and what an acceptance means for the vectors in service (R203). -/

namespace Sys2Proof.Machine

/-! ## Priority classes (R81) -/

theorem bitVec_lt_of_le_of_lt {w : Nat} {a b c : BitVec w} (hab : a ≤ b) (hbc : b < c) : a < c :=
  BitVec.lt_def.mpr (Nat.lt_of_le_of_lt (BitVec.le_def.mp hab) (BitVec.lt_def.mp hbc))

theorem toNat_cls (x : BitVec 8) : (cls x).toNat = x.toNat / 16 := by
  rw [cls, bits, BitVec.extractLsb'_toNat, Nat.shiftRight_eq_div_pow]
  exact Nat.mod_eq_of_lt (by have := x.isLt; omega)

/-- A greater vector has no lesser class. -/
theorem cls_mono {v w : BitVec 8} (h : v ≤ w) : cls v ≤ cls w := by
  rw [BitVec.le_def] at h ⊢
  rw [toNat_cls, toNat_cls]
  exact Nat.div_le_div_right h

/-- A vector of a lesser class is a lesser vector. -/
theorem lt_of_cls_lt {v w : BitVec 8} (h : cls v < cls w) : v < w :=
  BitVec.not_le.mp fun hle => BitVec.not_le.mpr h (cls_mono hle)

/-- A class with a zero low nibble has that class (R173). -/
theorem cls_append_zero (c : BitVec 4) : cls (c ++ 0#4 : BitVec 8) = c := by
  rw [cls, bits]
  exact BitVec.extractLsb'_append_eq_left

/-- The class of the task priority is `TPR[7:4]` (R23, R81). -/
theorem cls_tprByte (l : Lapic) : cls l.tprByte = bits l.tpr 4 4 := BitVec.extractLsb'_extractLsb'_of_le (by decide)

/-! ## The Processor Priority (R173) -/

/-- The class of the Processor Priority is the greater of the task priority's and the highest in-service one's. -/
theorem cls_ppr_lt_iff (l : Lapic) (c : BitVec 4) :
    cls l.ppr < c ↔ bits l.tpr 4 4 < c ∧ cls ((hsb l.isr).getD 0#8) < c := by
  rw [← cls_tprByte]
  unfold Lapic.ppr
  dsimp only
  split <;> rename_i h
  · exact ⟨fun hc => ⟨hc, bitVec_lt_of_le_of_lt h hc⟩, And.left⟩
  · rw [cls_append_zero]
    exact ⟨fun hc => ⟨BitVec.lt_trans (BitVec.not_le.mp h) hc, hc⟩, And.right⟩

/-- Nothing in service is above the Processor Priority's class. -/
theorem cls_le_ppr (l : Lapic) (w : Vec) (hw : Bitmap.has l.isr w = true) : cls w ≤ cls l.ppr := by
  obtain ⟨x, hx⟩ := exists_hsb l.isr w hw
  have hle : cls w ≤ cls x := cls_mono (le_hsb l.isr x w hx hw)
  by_contra habove
  have hlt := ((cls_ppr_lt_iff l (cls w)).mp (BitVec.not_le.mp habove)).2
  rw [hx, Option.getD_some] at hlt
  exact BitVec.not_le.mpr hlt hle

/-- A class is above the Processor Priority's when it is above the task priority's and above every class in service. -/
theorem cls_ppr_lt_iff_forall (l : Lapic) (c : BitVec 4) :
    cls l.ppr < c ↔ bits l.tpr 4 4 < c ∧ ∀ w, Bitmap.has l.isr w = true → cls w < c := by
  constructor
  · intro h
    exact ⟨((cls_ppr_lt_iff l c).mp h).1, fun w hw => bitVec_lt_of_le_of_lt (cls_le_ppr l w hw) h⟩
  · rintro ⟨htpr, hisr⟩
    refine (cls_ppr_lt_iff l c).mpr ⟨htpr, ?_⟩
    cases hx : hsb l.isr with
    | none => exact bitVec_lt_of_le_of_lt (BitVec.le_def.mpr (Nat.zero_le (bits l.tpr 4 4).toNat)) htpr
    | some x => exact hisr x (hsb_has l.isr x hx)

/-! ## Posting and expiry -/

/-- Settles O34. The clauses are the cases of a post, and of an expiry, which posts as Edge. -/
theorem postAndExpirySetRejectOrAbsorb : Obligations.PostAndExpirySetRejectOrAbsorb := by
  have hpost (l : Lapic) (v : Vec) (tm : Trigger) :
      (v.toNat < 16 → l.post v tm = (.illegalVector, { l with esr := l.esrWith 0x00000040#32 })) ∧
      (16 ≤ v.toNat → Bitmap.has l.irr v = true → l.post v tm = (.alreadyPending, l)) ∧
      (16 ≤ v.toNat → Bitmap.has l.irr v = false → l.post v tm = (.posted,
        { l with irr := Bitmap.set l.irr v, tmr := if tm = .level then Bitmap.set l.tmr v else Bitmap.clear l.tmr v })) := by
    obtain ⟨hlow, h⟩ | ⟨hhigh, hpending, h⟩ | ⟨hhigh, hnew, h⟩ := post_cases l v tm <;> rw [h]
    · exact ⟨fun _ => by rw [esrRecord_eq_esrWith]; rfl, fun hv => absurd hlow (Nat.not_lt.mpr hv), fun hv => absurd hlow (Nat.not_lt.mpr hv)⟩
    · exact ⟨fun hv => absurd hv (Nat.not_lt.mpr hhigh), fun _ _ => rfl, fun _ hnew => by cases hpending.symm.trans hnew⟩
    · refine ⟨fun hv => absurd hv (Nat.not_lt.mpr hhigh), fun _ hpending => (by cases hnew.symm.trans hpending), fun _ _ => ?_⟩
      cases tm <;> rfl
  refine ⟨hpost, fun l => ?_⟩
  intro v
  obtain ⟨hlow, hpending, hnew⟩ := hpost l v .edge
  obtain ⟨hmask, h⟩ | ⟨hmask, h⟩ := expire_cases l <;> rw [h, hmask]
  · exact ⟨fun _ => rfl, nofun, nofun, nofun⟩
  · exact ⟨nofun, fun _ hv hirr => congrArg Prod.snd (hnew hv hirr), fun _ hv hirr => congrArg Prod.snd (hpending hv hirr),
      fun _ hv => congrArg Prod.snd (hlow hv)⟩

/-! ## Arbitration -/

/-- Arbitration by the bits of the registers it reads (R174). -/
theorem deliverable_iff (l : Lapic) (v : Vec) :
    l.deliverable = some v ↔ Bitmap.has l.irr v = true ∧ (∀ w, Bitmap.has l.irr w = true → w ≤ v) ∧
      bits l.tpr 4 4 < cls v ∧ ∀ w, Bitmap.has l.isr w = true → cls w < cls v := by
  rw [deliverable_eq_some_iff, cls_ppr_lt_iff_forall]
  constructor
  · rintro ⟨hhigh, habove⟩
    exact ⟨hsb_has l.irr v hhigh, fun w => le_hsb l.irr v w hhigh, habove⟩
  · rintro ⟨hpending, hmax, habove⟩
    exact ⟨hsb_eq_some_of_greatest l.irr v hpending hmax, habove⟩

theorem intrPending_iff (l : Lapic) : l.intrPending = true ↔ ∃ v, l.deliverable = some v := Option.isSome_iff_exists

/-- A legal vector has a class above zero (R53, R81). -/
theorem zero_lt_cls (v : Vec) (h : 16 ≤ v.toNat) : 0#4 < cls v := by
  rw [BitVec.lt_def, toNat_cls]
  exact Nat.div_pos h (by decide)

/-- Settles O35. No class exceeds 15, and with nothing in service every legal vector exceeds a task priority of class 0. -/
theorem deliverableIsHighestAboveEveryClass : Obligations.DeliverableIsHighestAboveEveryClass := by
  refine fun l => ⟨deliverable_iff l, intrPending_iff l, fun htop => ?_, fun hzero hempty hlow v hv => ?_⟩
  · refine Bool.eq_false_iff.mpr fun hpending => ?_
    obtain ⟨v, hv⟩ := (intrPending_iff l).mp hpending
    obtain ⟨-, -, habove, -⟩ := (deliverable_iff l v).mp hv
    rw [htop] at habove
    exact BitVec.not_le.mpr habove (BitVec.le_def.mpr (Nat.le_of_lt_succ (cls v).isLt))
  · obtain ⟨w, hw⟩ := exists_hsb l.irr v hv
    have hpending := hsb_has l.irr w hw
    have hlegal : 16 ≤ w.toNat := Nat.not_lt.mp fun h => by rw [(hlow w h).1] at hpending; cases hpending
    refine (intrPending_iff l).mpr ⟨w, (deliverable_iff l w).mpr ⟨hpending, fun x => le_hsb l.irr w x hw, ?_, fun x hx => ?_⟩⟩
    · rw [hzero]
      exact zero_lt_cls w hlegal
    · rw [hempty, has_zero] at hx
      cases hx

/-- Settles O36. PENDING_VECTOR matches on what arbitration offers. -/
theorem pendingVectorReportsArbitration : Obligations.PendingVectorReportsArbitration := by
  have hexec (s : State) : exec .pendingVector s = execPendingVector s := rfl
  refine fun s => ⟨fun v h => ?_, fun h => ?_⟩ <;> rw [hexec, execPendingVector, h] <;> rfl

/-! ## Acceptance -/

/-- What arbitration offers has a class above every class in service (R174, R203). -/
theorem cls_lt_of_deliverable (l : Lapic) (v w : Vec) (h : l.deliverable = some v) (hw : Bitmap.has l.isr w = true) : cls w < cls v :=
  ((deliverable_iff l v).mp h).2.2.2 w hw

/-- An acceptance adds the deliverable vector to ISR and nothing else (R177). -/
theorem has_accept_isr (l : Lapic) (v w : Vec) (h : l.deliverable = some v) :
    Bitmap.has (l.accept v).isr w = (decide (w = v) || Bitmap.has l.isr w) := by
  rw [accept_of_pending l v (has_irr_of_deliverable l v h), has_set]

/-- The accepted vector is the highest in service (R203). -/
theorem hsb_accept_isr (l : Lapic) (v : Vec) (h : l.deliverable = some v) : hsb (l.accept v).isr = some v := by
  refine hsb_eq_some_of_greatest _ v (by simp [has_accept_isr l v v h]) fun w hw => ?_
  rw [has_accept_isr l v w h, Bool.or_eq_true, decide_eq_true_iff] at hw
  obtain rfl | hw := hw
  · exact BitVec.le_refl _
  · exact BitVec.le_of_lt (lt_of_cls_lt (cls_lt_of_deliverable l v w h hw))

/-- The end of interrupt of the accepted vector leaves ISR as it was before the acceptance (R180, R203). -/
theorem eoi_accept_isr (l : Lapic) (v : Vec) (h : l.deliverable = some v) : (l.accept v).eoi.isr = l.isr := by
  have hcleared : (l.accept v).eoi.isr = Bitmap.clear (l.accept v).isr v := by
    obtain ⟨hempty, -⟩ | ⟨w, hw, hretired⟩ := eoi_cases (l.accept v)
    · cases ((hsb_eq_none _).mpr hempty).symm.trans (hsb_accept_isr l v h)
    · obtain rfl : w = v := Option.some.inj (hw.symm.trans (hsb_accept_isr l v h))
      obtain ⟨-, he⟩ | ⟨-, he⟩ := hretired <;> rw [he]
  have hout : Bitmap.has l.isr v = false := Bool.eq_false_iff.mpr fun hin => BitVec.lt_irrefl _ (cls_lt_of_deliverable l v v h hin)
  rw [hcleared]
  refine bitmap_ext _ _ fun w => ?_
  rw [has_clear, has_accept_isr l v w h]
  by_cases hwv : w = v <;> simp [hwv, hout]

/-- Settles O38. What arbitration offers outranks every vector in service, so once accepted it is the highest, and the EOI retires it. -/
theorem acceptedVectorOutranksEveryoneInService : Obligations.AcceptedVectorOutranksEveryoneInService := by
  intro s t v hv h
  cases (exec_accept_of_deliverable s v hv).symm.trans h
  have hin : Bitmap.has (s.self.accept v).isr v = true := by simp [has_accept_isr s.self v v hv]
  refine ⟨hin, fun w => cls_lt_of_deliverable s.self v w hv, cls_le_ppr _ v hin, fun x u hu => ?_⟩
  cases (exec_wrEoi x _).symm.trans hu
  exact eoi_accept_isr s.self v hv

end Sys2Proof.Machine
end

section
/-! PROOFS. The bitmaps under every operation: which operations take a bit away (R199), the vectors that never appear (R53) and the one
vector of a class in service (R203). -/

namespace Sys2Proof.Machine

/-! ## A pending vector stays pending until it is accepted -/

theorem has_irr_post (l : Lapic) (v w : Vec) (tm : Trigger) (h : Bitmap.has l.irr w = true) : Bitmap.has (l.post v tm).2.irr w = true := by
  obtain ⟨-, hp⟩ | ⟨-, -, hp⟩ | ⟨-, -, hp⟩ := post_cases l v tm <;> rw [hp]
  · rw [esrRecord_irr]
    exact h
  · exact h
  · rw [has_set, h, Bool.or_true]

theorem has_irr_expire (l : Lapic) (w : Vec) (h : Bitmap.has l.irr w = true) : Bitmap.has l.expire.irr w = true := by
  obtain ⟨-, he⟩ | ⟨-, he⟩ := expire_cases l <;> rw [he]
  · exact h
  · exact has_irr_post l _ w _ h

theorem has_irr_tickOne (l : Lapic) (w : Vec) (h : Bitmap.has l.irr w = true) : Bitmap.has l.tickOne.irr w = true := by
  obtain ⟨-, ht⟩ | ⟨-, -, ⟨-, ht⟩ | ⟨-, -, ht⟩ | ⟨-, -, ht⟩⟩ := tickOne_cases l <;> rw [ht]
  case inr.inr.inr => exact has_irr_expire l w h
  all_goals exact h

theorem has_irr_deliver (l : Lapic) (msg : BitVec 40) (w : Vec) (h : Bitmap.has l.irr w = true) :
    Bitmap.has (l.deliver msg).lapic.irr w = true := by
  obtain ⟨k, -, hd, -⟩ | ⟨-, -, hd, -⟩ := deliver_cases l msg <;> rw [hd]
  · exact h
  · exact has_irr_post l _ w _ h

/-- Only ACCEPT and RESET take a pending vector away (R199). -/
theorem selfChange_irr {l l' : Lapic} {i : Instr} (hchange : SelfChange l i l') (v : Vec) (h : Bitmap.has l.irr v = true) :
    Bitmap.has l'.irr v = true ∨ i = .accept ∨ i = .reset := by
  cases hchange with
  | reset => exact .inr (.inr rfl)
  | accept w hw => exact .inr (.inl rfl)
  | tick n => exact .inl (tickTimes_induction (P := fun x => Bitmap.has x.irr v = true) (fun x => has_irr_tickOne x v) l n.toNat h)
  | deadline now hmode => exact .inl (has_irr_expire l v h)
  | eoi x => rw [eoi_irr]; exact .inl h
  | fireRejected i hi => rw [esrRecord_irr]; exact .inl h
  | fireEdge i hi w => exact .inl (has_irr_post l w v _ h)
  | fireLevel i hi src w => rw [setRemoteIrr_irr]; exact .inl (has_irr_post l w v _ h)
  | deliver msg => exact .inl (has_irr_deliver l msg v h)
  | lvt r src hr x => rw [withLvt_irr]; exact .inl h
  | sendFailed x b hb => rw [esrRecord_irr]; exact .inl h
  | sentToSelf x msg => exact .inl (has_irr_deliver { l with icrLo := icrLoStored x } msg v h)
  | _ => exact .inl h

/-- Settles O41. The changes of IRR are those of `selfChange_irr`, the changes of ISR those of `exec_self_isr_cases`. -/
theorem pendingAndServiceBitsFallOnlyByTheirOwnOperations : Obligations.PendingAndServiceBitsFallOnlyByTheirOwnOperations := by
  intro i s t v h
  refine ⟨fun hpending hfell => ?_, fun hin hfell => ?_⟩
  · obtain hkept | hop := selfChange_irr (exec_selfChange i s t h) v hpending
    · cases hfell.symm.trans hkept
    · exact hop
  · obtain hsame | ⟨w, -, ht⟩ | ⟨x, rfl, -⟩ | ⟨rfl, -⟩ := exec_self_isr_cases i s t h
    · rw [hsame, hin] at hfell
      cases hfell
    · rw [ht] at hfell
      obtain ⟨-, ha⟩ | ⟨-, ha⟩ := accept_cases s.self w <;> rw [ha] at hfell
      · rw [has_set, hin, Bool.or_true] at hfell
        cases hfell
      · cases hin.symm.trans hfell
    · exact .inl ⟨x, rfl⟩
    · exact .inr rfl

/-! ## Vectors below 16 stay out (R53) -/

/-- The invariant reads the three bitmaps alone. -/
theorem noLowVector_congr {l l' : Lapic} (hirr : l'.irr = l.irr) (hisr : l'.isr = l.isr) (htmr : l'.tmr = l.tmr) (h : l.NoLowVector) :
    l'.NoLowVector := by
  unfold Lapic.NoLowVector
  rw [hirr, hisr, htmr]
  exact h

theorem noLowVector_reset (p : Params) : (Lapic.reset p).NoLowVector := fun v _ => ⟨has_zero v, has_zero v, has_zero v⟩

/-- A post of a vector below 16 is rejected (R172). -/
theorem noLowVector_post (l : Lapic) (v : Vec) (tm : Trigger) (h : l.NoLowVector) : (l.post v tm).2.NoLowVector := by
  obtain ⟨-, hp⟩ | ⟨-, -, hp⟩ | ⟨hv, -, hp⟩ := post_cases l v tm <;> rw [hp]
  · exact noLowVector_congr (by simp) (by simp) (by simp) h
  · exact h
  · intro w hw
    obtain ⟨hirr, hisr, htmr⟩ := h w hw
    have hne : w ≠ v := by rintro rfl; omega
    exact ⟨by rw [has_set, hirr]; simp [hne], hisr, by rw [has_put, if_neg hne, htmr]⟩

theorem noLowVector_expire (l : Lapic) (h : l.NoLowVector) : l.expire.NoLowVector := by
  obtain ⟨-, he⟩ | ⟨-, he⟩ := expire_cases l <;> rw [he]
  · exact h
  · exact noLowVector_post l _ _ h

theorem noLowVector_tickOne (l : Lapic) (h : l.NoLowVector) : l.tickOne.NoLowVector := by
  obtain ⟨-, ht⟩ | ⟨-, -, ⟨-, ht⟩ | ⟨-, -, ht⟩ | ⟨-, -, ht⟩⟩ := tickOne_cases l <;> rw [ht]
  case inr.inr.inr => exact noLowVector_expire l h
  all_goals exact h

theorem noLowVector_deliver (l : Lapic) (msg : BitVec 40) (h : l.NoLowVector) : (l.deliver msg).lapic.NoLowVector := by
  obtain ⟨k, -, hd, -⟩ | ⟨-, -, hd, -⟩ := deliver_cases l msg <;> rw [hd]
  · exact h
  · exact noLowVector_post l _ _ h

/-- What is accepted was pending, so it is no vector below 16 (R177). -/
theorem noLowVector_accept (l : Lapic) (v : Vec) (h : l.NoLowVector) : (l.accept v).NoLowVector := by
  obtain ⟨hpending, ha⟩ | ⟨-, ha⟩ := accept_cases l v <;> rw [ha]
  · intro w hw
    obtain ⟨hirr, hisr, htmr⟩ := h w hw
    have hne : w ≠ v := by rintro rfl; cases hirr.symm.trans hpending
    exact ⟨by rw [has_clear, hirr, Bool.and_false], by rw [has_set, hisr]; simp [hne], htmr⟩
  · exact h

theorem noLowVector_eoi (l : Lapic) (h : l.NoLowVector) : l.eoi.NoLowVector := by
  intro w hw
  obtain ⟨hirr, hisr, htmr⟩ := h w hw
  have hout : Bitmap.has l.eoi.isr w = false :=
    Bool.eq_false_iff.mpr fun hin => by cases hisr.symm.trans (has_isr_of_has_eoi_isr l w hin)
  exact ⟨by rw [eoi_irr]; exact hirr, hout, by rw [eoi_tmr]; exact htmr⟩

theorem noLowVector_kept : KeptByEveryChange Lapic.NoLowVector := by
  intro l i l' hchange h
  cases hchange with
  | reset => exact noLowVector_reset _
  | tick n => exact tickTimes_induction noLowVector_tickOne l n.toNat h
  | lvt r src hr v => exact noLowVector_congr (by simp) (by simp) (by simp) h
  | deadline now hmode => exact noLowVector_expire l h
  | accept v hv => exact noLowVector_accept l v h
  | eoi x => exact noLowVector_eoi l h
  | fireRejected i hi => exact noLowVector_congr (by simp) (by simp) (by simp) h
  | fireEdge i hi v => exact noLowVector_post l v _ h
  | fireLevel i hi src v => exact noLowVector_congr (by simp) (by simp) (by simp) (noLowVector_post l v .level h)
  | deliver msg => exact noLowVector_deliver l msg h
  | sendFailed v b hb => exact noLowVector_congr (by simp) (by simp) (by simp) h
  | sentToSelf v msg => exact noLowVector_deliver { l with icrLo := icrLoStored v } msg h
  | _ => exact h

/-- Settles O55. A post rejects what is below 16, and every bit of ISR and TMR was in IRR first. -/
theorem stepKeepsLowVectorsOut : Obligations.StepKeepsLowVectorsOut := step_every noLowVector_kept

/-! ## One vector of a class in service (R203) -/

/-- Taking vectors out of service keeps the invariant. -/
theorem oneInServicePerClass_of_subset {l l' : Lapic} (hsub : ∀ v, Bitmap.has l'.isr v = true → Bitmap.has l.isr v = true)
    (h : l.OneInServicePerClass) : l'.OneInServicePerClass :=
  fun v w hv hw => h v w (hsub v hv) (hsub w hw)

theorem oneInServicePerClass_congr {l l' : Lapic} (hisr : l'.isr = l.isr) (h : l.OneInServicePerClass) : l'.OneInServicePerClass :=
  oneInServicePerClass_of_subset (fun v hv => by rwa [hisr] at hv) h

theorem oneInServicePerClass_reset (p : Params) : (Lapic.reset p).OneInServicePerClass := by
  intro v w hv
  change Bitmap.has 0#256 v = true at hv
  rw [has_zero] at hv
  cases hv

/-- The accepted vector has a class of its own: it is above every class in service (R174). -/
theorem oneInServicePerClass_accept (l : Lapic) (v : Vec) (hv : l.deliverable = some v) (h : l.OneInServicePerClass) :
    (l.accept v).OneInServicePerClass := by
  have hother (w : Vec) (hw : Bitmap.has l.isr w = true) : cls w ≠ cls v := fun heq =>
    BitVec.lt_irrefl _ (heq ▸ cls_lt_of_deliverable l v w hv hw)
  intro x y hx hy hclass
  rw [has_accept_isr l v _ hv, Bool.or_eq_true, decide_eq_true_iff] at hx hy
  obtain rfl | hx := hx
  · obtain rfl | hy := hy
    · rfl
    · exact absurd hclass.symm (hother y hy)
  · obtain rfl | hy := hy
    · exact absurd hclass (hother x hx)
    · exact h x y hx hy hclass

theorem oneInServicePerClass_kept : KeptByEveryChange Lapic.OneInServicePerClass := by
  intro l i l' hchange h
  cases hchange with
  | reset => exact oneInServicePerClass_reset _
  | accept v hv => exact oneInServicePerClass_accept l v hv h
  | eoi x => exact oneInServicePerClass_of_subset (has_isr_of_has_eoi_isr l) h
  | tick n => exact tickTimes_induction (P := Lapic.OneInServicePerClass) (fun x => oneInServicePerClass_congr (tickOne_isr x)) l n.toNat h
  | _ => exact oneInServicePerClass_congr (by simp) h

/-- Settles O56. Only an acceptance adds to ISR, and what it adds outranks every class there. -/
theorem stepKeepsOneVectorInServicePerClass : Obligations.StepKeepsOneVectorInServicePerClass := step_every oneInServicePerClass_kept

end Sys2Proof.Machine
end

section
/-! PROOFS. The invariants of the registers: the timer within its bounds (R47, R52, R135), legal mode fields (R147) and reserved bits
zero (R51), and how ESR grows (R196). -/

namespace Sys2Proof.Machine

/-! ## The timer within its bounds -/

/-- The invariant of the timer: counts within bounds, and one of count and deadline in use. -/
def Lapic.TimerBounded (l : Lapic) : Prop := l.CountsBounded ∧ l.OneTimerArmed

/-- The invariant reads the timer's registers alone. -/
theorem timerBounded_congr {l l' : Lapic} (htimer : l'.lvtTimer = l.lvtTimer) (hticr : l'.ticr = l.ticr) (htccr : l'.tccr = l.tccr)
    (htdcr : l'.tdcr = l.tdcr) (htscdl : l'.tscdl = l.tscdl) (hpresc : l'.presc = l.presc) (h : l.TimerBounded) : l'.TimerBounded := by
  unfold Lapic.TimerBounded Lapic.CountsBounded Lapic.OneTimerArmed
  rw [mode_congr htimer, divideValue_congr htdcr, hticr, htccr, htscdl, hpresc]
  exact h

theorem timerBounded_reset (p : Params) : (Lapic.reset p).TimerBounded := by
  refine ⟨⟨BitVec.le_refl _, ?_⟩, fun _ => rfl, fun _ => rfl⟩
  rw [divideValue_reset]
  exact Nat.two_pos

/-- A disarmed timer is within its bounds (R165). -/
theorem timerBounded_timerDisarm (l : Lapic) : l.timerDisarm.TimerBounded :=
  ⟨⟨BitVec.le_def.mpr (Nat.zero_le _), (divideValue_bounds _).1⟩, fun _ => rfl, fun _ => rfl⟩

/-- WR_TICR loads the count with the very value it stores, but in TscDeadline mode, where the count is zero (R160). -/
theorem timerBounded_ticr (l : Lapic) (v : Word) (h : l.TimerBounded) :
    ({ l with ticr := v, presc := 0, tccr := if l.mode = .tscDeadline then l.tccr else v } : Lapic).TimerBounded := by
  obtain ⟨-, hcountdown, hdeadline⟩ := h
  refine ⟨⟨?_, (divideValue_bounds _).1⟩, hcountdown, fun hmode => ?_⟩
  · dsimp only
    split <;> rename_i hmode
    · rw [hdeadline hmode]
      exact BitVec.le_def.mpr (Nat.zero_le _)
    · exact BitVec.le_refl _
  · exact (if_pos hmode).trans (hdeadline hmode)

theorem timerBounded_tickOne (l : Lapic) (h : l.TimerBounded) : l.tickOne.TimerBounded := by
  obtain ⟨⟨hle, hp⟩, hcountdown, hdeadline⟩ := h
  obtain ⟨-, ht⟩ | ⟨hmode, hcount, hcase⟩ := tickOne_cases l
  · rw [ht]
    exact ⟨⟨hle, hp⟩, hcountdown, hdeadline⟩
  · have hd := (divideValue_bounds l).1
    have hnot : l.tickOne.mode ≠ .tscDeadline := by rw [tickOne_mode]; exact hmode
    refine ⟨?_, fun _ => by rw [tickOne_tscdl]; exact hcountdown hmode, fun hm => absurd hm hnot⟩
    unfold Lapic.CountsBounded
    rw [tickOne_divideValue, tickOne_ticr]
    obtain ⟨hp', ht⟩ | ⟨-, -, ht⟩ | ⟨-, -, ht⟩ := hcase <;> rw [ht]
    · exact ⟨hle, hp'⟩
    · exact ⟨by bv_omega, hd⟩
    · refine ⟨?_, hd⟩
      dsimp only
      split
      · exact BitVec.le_refl _
      · exact BitVec.le_def.mpr (Nat.zero_le _)

/-- An LVT register either has the whole delivery mode field or has no such field (R77). -/
theorem lvtEntries_fields : ∀ p ∈ lvtEntries,
    (bits (writeMask p.1) 8 3 = 7#3 ∨ bits (writeMask p.1) 8 3 = 0#3) ∧ p.2 ≠ .timer := by decide

theorem withLvt_lvtTimer (l : Lapic) (src : LvtSource) (w : Word) (h : src ≠ .timer) : (l.withLvt src w).lvtTimer = l.lvtTimer :=
  (withLvt_lvt l src .timer w).trans (if_neg (Ne.symm h))

theorem timerBounded_kept : KeptByEveryChange Lapic.TimerBounded := by
  intro l i l' hchange h
  cases hchange with
  | reset => exact timerBounded_reset _
  | ticr v => exact timerBounded_ticr l v h
  | tdcr v => exact ⟨⟨h.1.1, (divideValue_bounds _).1⟩, h.2⟩
  | tscdl d hmode => exact ⟨h.1, fun hm => absurd hmode hm, h.2.2⟩
  | lvtTimerKept v hfield =>
    have hmode : ({ l with lvtTimer := lvtStored .lvtTimer .timer v l.lvtTimer } : Lapic).mode = l.mode :=
      congrArg TimerMode.ofBits hfield
    exact ⟨h.1, fun hm => h.2.1 (hmode ▸ hm), fun hm => h.2.2 (hmode ▸ hm)⟩
  | lvtTimerDisarmed v => exact timerBounded_timerDisarm _
  | lvt r src hr v =>
    exact timerBounded_congr (withLvt_lvtTimer l src _ (lvtEntries_fields (r, src) hr).2) (by simp) (by simp) (by simp) (by simp) (by simp) h
  | tick n => exact tickTimes_induction (P := Lapic.TimerBounded) timerBounded_tickOne l n.toNat h
  | deadline now hmode =>
    have hexpired : l.expire.TimerBounded := timerBounded_congr (by simp) (by simp) (by simp) (by simp) (by simp) (by simp) h
    exact ⟨hexpired.1, fun _ => rfl, hexpired.2.2⟩
  | _ => exact timerBounded_congr (by simp) (by simp) (by simp) (by simp) (by simp) (by simp) h

/-- Settles O54. Every tick keeps the timer's bounds, and every change of mode empties both count and deadline. -/
theorem stepKeepsTimerWithinItsBounds : Obligations.StepKeepsTimerWithinItsBounds := step_every timerBounded_kept

/-! ## Fields of a word that an update leaves alone -/

/-- A field that lies wholly outside the mask keeps its old value (R90). -/
theorem bits_maskedStore_of_unmasked (wm value old : Word) (lo w : Nat) (h : bits wm lo w = 0#w) :
    bits (maskedStore wm value old) lo w = bits old lo w := by
  apply BitVec.eq_of_getLsbD_eq
  intro i hi
  have hwm : wm.getLsbD (lo + i) = false := by
    have hbit := congrArg (·.getLsbD i) h
    simpa [bits, hi] using hbit
  simp only [bits, BitVec.getLsbD_extractLsb', getLsbD_maskedStore, hwm, Bool.false_eq_true, if_false]

/-- A field below another one is not touched by its update. -/
theorem bits_setBits_below {w : Nat} (v : Word) (lo : Nat) (x : BitVec w) (lo' w' : Nat) (h : lo' + w' ≤ lo) (hlo : lo ≤ 32) :
    bits (setBits v lo x) lo' w' = bits v lo' w' := by
  apply BitVec.eq_of_getLsbD_eq
  intro i hi
  simp only [bits, BitVec.getLsbD_extractLsb']
  rw [getLsbD_setBits v lo x _ (by omega), if_neg (by omega)]

/-- `remote_irr` is no part of the delivery mode. -/
theorem bits_mode_setRemoteIrr (raw : Word) : bits (raw ||| 0x00004000#32) 8 3 = bits raw 8 3 := by
  simp [bits, BitVec.extractLsb'_or]

theorem bits_mode_clearRemoteIrr (raw : Word) : bits (raw &&& ~~~0x00004000#32) 8 3 = bits raw 8 3 := by
  have hones : BitVec.extractLsb' 8 3 (~~~0x00004000#32) = BitVec.allOnes 3 := by decide
  rw [bits, bits, BitVec.extractLsb'_and, hones, BitVec.and_allOnes]

theorem bits_mode_ackRemoteIrr (raw : Word) (v : Vec) : bits (ackRemoteIrr raw v) 8 3 = bits raw 8 3 := by
  unfold ackRemoteIrr
  split
  · exact bits_mode_clearRemoteIrr raw
  · rfl

/-! ## Legal mode fields -/

/-- The invariant, register by register: each LVT entry and ICR_LO that is another than before has a legal mode. -/
theorem modesLegal_of {l l' : Lapic} (h : l.ModesLegal)
    (hlvt : ∀ src, bits (l'.lvt src) 8 3 = bits (l.lvt src) 8 3 ∨ bits (l'.lvt src) 8 3 ∈ legalModes src)
    (htimer : l'.lvtTimer = l.lvtTimer ∨ bits l'.lvtTimer 17 2 ∈ legalTimerMode)
    (hicr : l'.icrLo = l.icrLo ∨ bits l'.icrLo 8 3 ∈ legalIcr) : l'.ModesLegal := by
  obtain ⟨hmodes, htmode, hicrMode⟩ := h
  refine ⟨fun src => ?_, ?_, ?_⟩
  · obtain heq | hmem := hlvt src
    · rw [heq]
      exact hmodes src
    · exact hmem
  · obtain heq | hmem := htimer
    · rw [heq]
      exact htmode
    · exact hmem
  · obtain heq | hmem := hicr
    · rw [heq]
      exact hicrMode
    · exact hmem

/-- An instance that agrees on the LVT and ICR_LO agrees on the invariant. -/
theorem modesLegal_congr {l l' : Lapic} (h : l.ModesLegal) (hlvt : ∀ src, l'.lvt src = l.lvt src) (hicr : l'.icrLo = l.icrLo) :
    l'.ModesLegal :=
  modesLegal_of h (fun src => .inl (by rw [hlvt src])) (.inl (hlvt .timer)) (.inl hicr)

theorem modesLegal_reset (p : Params) : (Lapic.reset p).ModesLegal := by
  have htimer : (Lapic.reset p).lvtTimer = 0x00010000#32 := rfl
  have hicr : (Lapic.reset p).icrLo = 0#32 := rfl
  refine ⟨fun src => ?_, by rw [htimer]; decide, by rw [hicr]; decide⟩
  rw [lvt_reset]
  cases src <;> decide

@[simp] theorem esrRecord_lvt (l : Lapic) (b : Nat) (src : LvtSource) : (l.esrRecord b).lvt src = l.lvt src := by
  cases src <;> simp [Lapic.lvt]

@[simp] theorem post_lvt (l : Lapic) (v : Vec) (tm : Trigger) (src : LvtSource) : (l.post v tm).2.lvt src = l.lvt src := by
  cases src <;> simp [Lapic.lvt]

@[simp] theorem expire_lvt (l : Lapic) (src : LvtSource) : l.expire.lvt src = l.lvt src := by cases src <;> simp [Lapic.lvt]

@[simp] theorem tickOne_lvt (l : Lapic) (src : LvtSource) : l.tickOne.lvt src = l.lvt src := by cases src <;> simp [Lapic.lvt]

@[simp] theorem accept_lvt (l : Lapic) (v : Vec) (src : LvtSource) : (l.accept v).lvt src = l.lvt src := by
  cases src <;> simp [Lapic.lvt]

@[simp] theorem deliver_lvt (l : Lapic) (msg : BitVec 40) (src : LvtSource) : (l.deliver msg).lapic.lvt src = l.lvt src := by
  cases src <;> simp [Lapic.lvt]

/-- Setting `remote_irr` leaves every delivery mode as it was (R150). -/
theorem bits_mode_lvt_setRemoteIrr (l : Lapic) (src src' : LvtSource) :
    bits ((l.setRemoteIrr src).lvt src') 8 3 = bits (l.lvt src') 8 3 := by
  rw [setRemoteIrr_eq]
  cases src' with
  | lint0 | lint1 =>
    dsimp only [Lapic.lvt]
    split <;> rename_i hsrc
    · rw [hsrc]
      exact bits_mode_setRemoteIrr _
    · rfl
  | _ => rfl

/-- An end of interrupt leaves every delivery mode as it was (R180). -/
theorem bits_mode_lvt_eoi (l : Lapic) (src : LvtSource) : bits (l.eoi.lvt src) 8 3 = bits (l.lvt src) 8 3 := by
  obtain ⟨-, he⟩ | ⟨v, -, ⟨-, he⟩ | ⟨-, he⟩⟩ := eoi_cases l <;> rw [he]
  · rfl
  cases src with
  | lint0 | lint1 => exact bits_mode_ackRemoteIrr _ v
  | _ => rfl

/-- A register without a delivery mode field stores the masked value (R91, R133). -/
theorem lvtStored_of_no_mode (r : Reg) (src : LvtSource) (value old : Word) (hfield : bits (writeMask r) 8 3 = 0#3) (hsrc : src ≠ .timer) :
    lvtStored r src value old = maskedStore (writeMask r) value old := by
  rw [lvtStored, if_neg hsrc, if_neg (not_not.mpr hfield)]

/-- What an LVT write stores has the old delivery mode or a legal one (R91, R147). -/
theorem bits_mode_lvtStored (r : Reg) (src : LvtSource) (hr : (r, src) ∈ lvtEntries) (value old : Word) :
    bits (lvtStored r src value old) 8 3 = bits old 8 3 ∨ bits (lvtStored r src value old) 8 3 ∈ legalModes src := by
  obtain ⟨hfield | hfield, hsrc⟩ := lvtEntries_fields (r, src) hr
  · rw [bits_lvtStored r src value old hfield hsrc]
    exact .inr (coerce_mem_legalModes src _)
  · rw [lvtStored_of_no_mode r src value old hfield hsrc, bits_maskedStore_of_unmasked _ _ _ _ _ hfield]
    exact .inl rfl

theorem bits_mode_lvtStored_timer (value old : Word) : bits (lvtStored .lvtTimer .timer value old) 8 3 = bits old 8 3 := by
  rw [lvtStored_timer, bits_setBits_below _ _ _ _ _ (by decide) (by decide), bits_maskedStore_of_unmasked _ _ _ _ _ (by decide)]

/-- LVT_TIMER stores a legal timer mode (R123, R147). -/
theorem bits_timerMode_lvtStored (value old : Word) : bits (lvtStored .lvtTimer .timer value old) 17 2 ∈ legalTimerMode := by
  rw [lvtStored_timer, bits_setBits _ _ _ (by decide)]
  exact coerce_mem_legalTimerMode _

/-- ICR_LO stores the written mode, coerced (R119). -/
theorem bits_mode_icrLoStored (v : Word) : bits (icrLoStored v) 8 3 = coerce legalIcr (bits v 8 3) := by
  have hmask : bits (writeMask .icrLo) 8 3 = BitVec.allOnes 3 := by decide
  rw [icrLoStored, bits_setBits _ _ _ (by decide)]
  congr 1
  rw [bits, bits, BitVec.extractLsb'_and]
  exact (congrArg (bits v 8 3 &&& ·) hmask).trans (BitVec.and_allOnes ..)

theorem bits_mode_icrLoStored_mem (v : Word) : bits (icrLoStored v) 8 3 ∈ legalIcr := by
  rw [bits_mode_icrLoStored]
  exact coerce_mem_legalIcr _

/-- A write of one LVT register keeps the modes legal when what it stores has the old mode or a legal one. -/
theorem modesLegal_withLvt (l : Lapic) (src : LvtSource) (w : Word) (h : l.ModesLegal)
    (hmode : bits w 8 3 = bits (l.lvt src) 8 3 ∨ bits w 8 3 ∈ legalModes src)
    (htimer : src = .timer → bits w 17 2 ∈ legalTimerMode) : (l.withLvt src w).ModesLegal := by
  refine modesLegal_of h (fun src' => ?_) ?_ (.inl (withLvt_icrLo l src w))
  · rw [withLvt_lvt]
    split <;> rename_i hs
    · rw [hs]
      exact hmode
    · exact .inl rfl
  · change (l.withLvt src w).lvt .timer = _ ∨ bits ((l.withLvt src w).lvt .timer) 17 2 ∈ _
    rw [withLvt_lvt]
    split <;> rename_i hs
    · exact .inr (htimer hs.symm)
    · exact .inl rfl

/-- Storing ICR_LO keeps the modes legal (R119). -/
theorem modesLegal_icrLo (l : Lapic) (v : Word) (h : l.ModesLegal) : ({ l with icrLo := icrLoStored v } : Lapic).ModesLegal :=
  modesLegal_of h (fun src => .inl (by cases src <;> rfl)) (.inl rfl) (.inr (bits_mode_icrLoStored_mem v))

/-- Storing LVT_TIMER keeps the modes legal (R123). -/
theorem modesLegal_lvtTimer (l : Lapic) (v : Word) (h : l.ModesLegal) :
    ({ l with lvtTimer := lvtStored .lvtTimer .timer v l.lvtTimer } : Lapic).ModesLegal :=
  modesLegal_withLvt l .timer _ h (.inl (bits_mode_lvtStored_timer v _)) fun _ => bits_timerMode_lvtStored v _

theorem modesLegal_kept : KeptByEveryChange Lapic.ModesLegal := by
  intro l i l' hchange h
  cases hchange with
  | reset => exact modesLegal_reset _
  | lvt r src hr v =>
    exact modesLegal_withLvt l src _ h (bits_mode_lvtStored r src hr v _) fun hs => absurd hs (lvtEntries_fields (r, src) hr).2
  | lvtTimerKept v _ | lvtTimerDisarmed v => exact modesLegal_lvtTimer l v h
  | eoi x => exact modesLegal_of h (fun src => .inl (bits_mode_lvt_eoi l src)) (.inl (by simp)) (.inl (by simp))
  | fireLevel i hi src v =>
    exact modesLegal_of h (fun src' => .inl (by rw [bits_mode_lvt_setRemoteIrr, post_lvt])) (.inl (by simp)) (.inl (by simp))
  | tick n =>
    exact tickTimes_induction (P := Lapic.ModesLegal) (fun x hx => modesLegal_congr hx (tickOne_lvt x) (tickOne_icrLo x)) l n.toNat h
  | deadline now hmode => exact modesLegal_congr h (expire_lvt l) (expire_icrLo l)
  | accept v hv => exact modesLegal_congr h (accept_lvt l v) (accept_icrLo l v)
  | fireRejected i hi => exact modesLegal_congr h (esrRecord_lvt l 6) (esrRecord_icrLo l 6)
  | fireEdge i hi v => exact modesLegal_congr h (post_lvt l v .edge) (post_icrLo l v .edge)
  | deliver msg => exact modesLegal_congr h (deliver_lvt l msg) (deliver_icrLo l msg)
  | sent v => exact modesLegal_icrLo l v h
  | sendFailed v b hb => exact modesLegal_congr (modesLegal_icrLo l v h) (esrRecord_lvt _ b) (esrRecord_icrLo _ b)
  | sentToSelf v msg => exact modesLegal_congr (modesLegal_icrLo l v h) (deliver_lvt _ msg) (deliver_icrLo _ msg)
  | _ => exact h

/-- Settles O53. Every store of a register with a mode field coerces it, and no other change touches one. -/
theorem stepKeepsModeFieldsLegal : Obligations.StepKeepsModeFieldsLegal := step_every modesLegal_kept

end Sys2Proof.Machine
end

section
/-! PROOFS. How ESR grows (R32, R196), and that reserved bits stay zero in every register (R51). -/

namespace Sys2Proof.Machine

/-! ## ESR grows by three bits -/

/-- ESR grows by bits 2, 5 and 6 at most, and not at all where errors are not recorded; the parameters stay (R32, R196). -/
def Lapic.EsrGrows (l l' : Lapic) : Prop :=
  l'.par = l.par ∧ ∃ m : Word, l'.esr = l.esr ||| m ∧ m &&& ~~~0x00000064#32 = 0#32 ∧ (l.par.esrRecord = false → m = 0#32)

theorem esrGrows_of_eq {l l' : Lapic} (hpar : l'.par = l.par) (hesr : l'.esr = l.esr) : l.EsrGrows l' :=
  ⟨hpar, 0#32, by rw [hesr, BitVec.or_zero], by decide, fun _ => rfl⟩

theorem esrGrows_trans {l l' l'' : Lapic} (h : l.EsrGrows l') (h' : l'.EsrGrows l'') : l.EsrGrows l'' := by
  obtain ⟨hpar, m, hesr, hm, hoff⟩ := h
  obtain ⟨hpar', m', hesr', hm', hoff'⟩ := h'
  refine ⟨hpar'.trans hpar, m ||| m', by rw [hesr', hesr, BitVec.or_assoc], ?_, fun hrec => ?_⟩
  · rw [BitVec.and_or_distrib_right, hm, hm', BitVec.or_zero]
  · rw [hoff hrec, hoff' (by rw [hpar]; exact hrec), BitVec.or_zero]

/-- An error record sets one of the three bits (R196). -/
theorem esrGrows_esrRecord (l : Lapic) (b : Nat) (hb : b = 2 ∨ b = 5 ∨ b = 6) : l.EsrGrows (l.esrRecord b) := by
  obtain ⟨h, hon⟩ | ⟨h, -⟩ := esrRecord_cases l b <;> rw [h]
  · refine ⟨rfl, 1#32 <<< b, rfl, ?_, fun hoff => by cases hon.symm.trans hoff⟩
    obtain rfl | rfl | rfl := hb <;> decide
  · exact esrGrows_of_eq rfl rfl

theorem esrGrows_post (l : Lapic) (v : Vec) (tm : Trigger) : l.EsrGrows (l.post v tm).2 := by
  obtain ⟨-, h⟩ | ⟨-, -, h⟩ | ⟨-, -, h⟩ := post_cases l v tm <;> rw [h]
  · exact esrGrows_esrRecord l 6 (.inr (.inr rfl))
  · exact esrGrows_of_eq rfl rfl
  · exact esrGrows_of_eq rfl rfl

theorem esrGrows_expire (l : Lapic) : l.EsrGrows l.expire := by
  obtain ⟨-, h⟩ | ⟨-, h⟩ := expire_cases l <;> rw [h]
  · exact esrGrows_of_eq rfl rfl
  · exact esrGrows_post l _ _

theorem esrGrows_tickOne (l : Lapic) : l.EsrGrows l.tickOne := by
  obtain ⟨-, h⟩ | ⟨-, -, ⟨-, h⟩ | ⟨-, -, h⟩ | ⟨-, -, h⟩⟩ := tickOne_cases l <;> rw [h]
  case inr.inr.inr => exact esrGrows_expire l
  all_goals exact esrGrows_of_eq rfl rfl

theorem esrGrows_deliver (l : Lapic) (msg : BitVec 40) : l.EsrGrows (l.deliver msg).lapic := by
  obtain ⟨k, -, h, -⟩ | ⟨-, -, h, -⟩ := deliver_cases l msg <;> rw [h]
  · exact esrGrows_of_eq rfl rfl
  · exact esrGrows_post l _ _

/-- Only RESET takes ESR bits away, and only errors set them (R32). -/
theorem selfChange_esr {l l' : Lapic} {i : Instr} (hchange : SelfChange l i l') (hi : i ≠ .reset) : l.EsrGrows l' := by
  cases hchange with
  | reset => exact absurd rfl hi
  | tick n =>
    exact tickTimes_induction (P := fun x => l.EsrGrows x) (fun x hx => esrGrows_trans hx (esrGrows_tickOne x)) l n.toNat
      (esrGrows_of_eq rfl rfl)
  | deadline now hmode => exact esrGrows_expire l
  | fireRejected i hi => exact esrGrows_esrRecord l 6 (.inr (.inr rfl))
  | fireEdge i hi v => exact esrGrows_post l v _
  | fireLevel i hi src v => exact esrGrows_trans (esrGrows_post l v .level) (esrGrows_of_eq (by simp) (by simp))
  | deliver msg => exact esrGrows_deliver l msg
  | sendFailed v b hb => exact esrGrows_esrRecord { l with icrLo := icrLoStored v } b (hb.imp_right Or.inl)
  | sentToSelf v msg => exact esrGrows_deliver { l with icrLo := icrLoStored v } msg
  | accept v hv => exact esrGrows_of_eq (by simp) (by simp)
  | eoi x => exact esrGrows_of_eq (by simp) (by simp)
  | lvt r src hr v => exact esrGrows_of_eq (by simp) (by simp)
  | _ => exact esrGrows_of_eq rfl rfl

theorem and_not_self_word (x : Word) : x &&& ~~~x = 0#32 := BitVec.and_not_self x

/-- Settles O50. What is OR-ed into ESR is made of bits 2, 5 and 6, and is zero where errors are not recorded. -/
theorem esrBitsAreStickyAndOnlyThree : Obligations.EsrBitsAreStickyAndOnlyThree := by
  intro i s t hi h
  obtain ⟨-, m, hesr, hm, hoff⟩ := selfChange_esr (exec_selfChange i s t h) hi
  rw [hesr]
  refine ⟨?_, ?_, fun hrec => by rw [hoff hrec, BitVec.or_zero]⟩
  · rw [BitVec.not_or, ← BitVec.and_assoc, and_not_self_word, BitVec.zero_and]
  · rw [BitVec.and_or_distrib_right, and_not_self_word, BitVec.zero_or, BitVec.and_assoc, BitVec.and_comm (~~~s.self.esr),
      ← BitVec.and_assoc, hm, BitVec.zero_and]

/-! ## Words within the bits their register can hold (R51) -/

/-- A word has no bit outside those that a register can hold. -/
abbrev Within (r : Reg) (w : Word) : Prop := w &&& ~~~readableBits r = 0#32

theorem within_iff (r : Reg) (w : Word) : Within r w ↔ ∀ i < 32, w.getLsbD i = true → (readableBits r).getLsbD i = true := by
  constructor
  · intro h i hi hw
    have hbit : (w &&& ~~~readableBits r).getLsbD i = false := by rw [h, BitVec.getLsbD_zero]
    rw [BitVec.getLsbD_and, BitVec.getLsbD_not, hw, decide_eq_true hi] at hbit
    simpa using hbit
  · intro h
    refine BitVec.eq_of_getLsbD_eq fun i hi => ?_
    rw [BitVec.getLsbD_and, BitVec.getLsbD_not]
    cases hw : w.getLsbD i with
    | false => simp
    | true => simp [h i hi hw]

/-- A bus write reaches only bits that can be read back (R77). -/
theorem writeMask_within (r : Reg) : Within r (writeMask r) := by
  cases r with
  | isr k | tmr k | irr k => exact BitVec.zero_and
  | _ => decide

theorem within_of_and (r : Reg) {v w : Word} (h : Within r w) : Within r (v &&& w) := by
  rw [Within, BitVec.and_assoc, h, BitVec.and_zero]

theorem within_or (r : Reg) {v w : Word} (hv : Within r v) (hw : Within r w) : Within r (v ||| w) := by
  rw [Within, BitVec.and_or_distrib_right, hv, hw, BitVec.or_zero]

/-- A masked write stays within the register (R90). -/
theorem within_write (r : Reg) (v : Word) : Within r (v &&& writeMask r) := within_of_and r (writeMask_within r)

theorem within_maskedStore (r : Reg) (value : Word) {old : Word} (h : Within r old) : Within r (maskedStore (writeMask r) value old) := by
  refine within_or r (within_write r value) ?_
  rw [BitVec.and_comm]
  exact within_of_and r h

/-- Putting a field into bits that can be read back stays within the register. -/
theorem within_setBits (r : Reg) {w : Nat} {v : Word} (lo : Nat) (x : BitVec w) (h : Within r v)
    (hfield : ∀ i < 32, lo ≤ i → i < lo + w → (readableBits r).getLsbD i = true) : Within r (setBits v lo x) := by
  rw [within_iff] at h ⊢
  intro i hi hbit
  rw [getLsbD_setBits v lo x i hi] at hbit
  split at hbit <;> rename_i hin
  · exact hfield i hi hin.1 hin.2
  · exact h i hi hbit

/-! ## The stored registers -/

/-- A register with a delivery mode field can hold every bit of it. -/
theorem lvtEntries_mode_readable : ∀ p ∈ lvtEntries, bits (writeMask p.1) 8 3 = 7#3 →
    ∀ i < 32, 8 ≤ i → i < 8 + 3 → (readableBits p.1).getLsbD i = true := by decide

/-- What an LVT write stores stays within the register (R91). -/
theorem within_lvtStored (r : Reg) (src : LvtSource) (hr : (r, src) ∈ lvtEntries) (value : Word) {old : Word} (h : Within r old) :
    Within r (lvtStored r src value old) := by
  obtain ⟨hfield | hfield, hsrc⟩ := lvtEntries_fields (r, src) hr
  · rw [lvtStored_deliveryMode r src value old hfield hsrc]
    exact within_setBits r 8 _ (within_maskedStore r value h) (lvtEntries_mode_readable (r, src) hr hfield)
  · rw [lvtStored_of_no_mode r src value old hfield hsrc]
    exact within_maskedStore r value h

theorem within_lvtStored_timer (value : Word) {old : Word} (h : Within .lvtTimer old) :
    Within .lvtTimer (lvtStored .lvtTimer .timer value old) := by
  rw [lvtStored_timer]
  exact within_setBits .lvtTimer 17 _ (within_maskedStore .lvtTimer value h) (by decide)

theorem within_icrLoStored (v : Word) : Within .icrLo (icrLoStored v) :=
  within_setBits .icrLo 8 _ (within_write .icrLo v) (by decide)

theorem within_ackRemoteIrr (r : Reg) {raw : Word} (v : Vec) (h : Within r raw) : Within r (ackRemoteIrr raw v) := by
  unfold ackRemoteIrr
  split
  · rw [BitVec.and_comm]
    exact within_of_and r h
  · exact h

theorem within_esr_or {esr m : Word} (h : Within .esr esr) (hm : m &&& ~~~0x00000064#32 = 0#32) : Within .esr (esr ||| m) :=
  within_or .esr h hm

/-! ## The invariant -/

/-- The registers with reserved bits that hold what is stored in them. -/
def maskedRegs : List Reg :=
  [.tpr, .ldr, .dfr, .svr, .esr, .lvtCmci, .icrLo, .icrHi, .lvtTimer, .lvtThermal, .lvtPerfmon, .lvtLint0, .lvtLint1, .lvtError, .tdcr]

theorem within_of_full {r : Reg} {w : Word} (h : readableBits r = 0xFFFFFFFF#32) : Within r w := by
  rw [Within, h]
  exact BitVec.and_zero

/-- The other registers read within their bits on every instance: constants, PPR, and those without reserved bits. -/
theorem within_of_not_masked (l : Lapic) (r : Reg) (hr : r ∉ maskedRegs) : Within r (l.readReg r) := by
  cases r with
  | version | isr | tmr | irr | ticr | tccr => exact within_of_full rfl
  | eoi => exact BitVec.zero_and
  | id =>
    refine (within_iff _ _).mpr fun i hi hbit => ?_
    have hlow : ¬i < 24 := fun hlt => by
      rw [Lapic.readReg, BitVec.getLsbD_append, if_pos hlt, BitVec.getLsbD_zero] at hbit
      cases hbit
    have hhigh : ∀ j < 32, ¬j < 24 → (readableBits .id).getLsbD j = true := by decide
    exact hhigh i hi hlow
  | ppr =>
    refine (within_iff _ _).mpr fun i hi hbit => ?_
    have hlow : i < 8 := by
      by_contra hge
      simp [Lapic.readReg, BitVec.getLsbD_of_ge _ i (Nat.not_lt.mp hge)] at hbit
    have hmask : ∀ j < 8, (readableBits .ppr).getLsbD j = true := by decide
    exact hmask i hlow
  | _ => exact absurd hr (not_not.mpr (by decide))

/-- The invariant of an instance: reserved bits zero, and none in the reset value chosen for SVR. -/
def Lapic.ReservedOk (l : Lapic) : Prop := l.ReservedZero ∧ Params.Legal l.par

/-- A change keeps reserved bits zero when each stored register it leaves another stays within its bits. -/
theorem reservedOk_of {l l' : Lapic} (h : l.ReservedOk) (hpar : l'.par = l.par)
    (hregs : ∀ r ∈ maskedRegs, l'.readReg r = l.readReg r ∨ Within r (l'.readReg r)) : l'.ReservedOk := by
  refine ⟨fun r => ?_, by rw [Params.Legal, hpar]; exact h.2⟩
  by_cases hr : r ∈ maskedRegs
  · obtain heq | hin := hregs r hr
    · rw [heq]
      exact h.1 r
    · exact hin
  · exact within_of_not_masked l' r hr

/-- Instances that agree on every stored register with reserved bits agree on the invariant. -/
theorem reservedOk_congr {l l' : Lapic} (h : l.ReservedOk) (hpar : l'.par = l.par)
    (hregs : ∀ r ∈ maskedRegs, l'.readReg r = l.readReg r) : l'.ReservedOk :=
  reservedOk_of h hpar fun r hr => .inl (hregs r hr)

/-- A change of one register keeps reserved bits zero when what the register becomes is within its bits. -/
theorem reservedOk_of_one {l l' : Lapic} (r : Reg) (h : l.ReservedOk) (hpar : l'.par = l.par) (hin : Within r (l'.readReg r))
    (hothers : ∀ r' ∈ maskedRegs, r' ≠ r → l'.readReg r' = l.readReg r') : l'.ReservedOk := by
  refine reservedOk_of h hpar fun r' hr' => ?_
  by_cases heq : r' = r
  · rw [heq]
    exact .inr hin
  · exact .inl (hothers r' hr' heq)

/-- A change that touches ESR alone of the stored registers, and grows it, keeps reserved bits zero. -/
theorem reservedOk_of_esrGrows {l l' : Lapic} (h : l.ReservedOk) (hgrows : l.EsrGrows l')
    (hothers : ∀ r ∈ maskedRegs, r ≠ .esr → l'.readReg r = l.readReg r) : l'.ReservedOk := by
  obtain ⟨hpar, m, hesr, hm, -⟩ := hgrows
  refine reservedOk_of_one .esr h hpar ?_ hothers
  change Within .esr l'.esr
  rw [hesr]
  exact within_esr_or (h.1 .esr) hm

theorem reservedOk_reset (p : Params) (h : Params.Legal p) : (Lapic.reset p).ReservedOk := by
  have hstored : ∀ r ∈ maskedRegs, r ≠ .svr → Within r ((Lapic.reset { apicId := 0#8 }).readReg r) := by decide
  have hsame : ∀ r ∈ maskedRegs, r ≠ .svr → (Lapic.reset p).readReg r = (Lapic.reset { apicId := 0#8 }).readReg r := by
    simp [maskedRegs, Lapic.readReg, Lapic.reset]
  refine ⟨fun r => ?_, h⟩
  by_cases hr : r ∈ maskedRegs
  · by_cases hs : r = .svr
    · rw [hs]
      exact h
    · rw [hsame r hr hs]
      exact hstored r hr hs
  · exact within_of_not_masked _ r hr

/-- What TICK leaves of the stored registers: ESR alone can grow (R163). -/
theorem reservedOk_tickOne (l : Lapic) (h : l.ReservedOk) : l.tickOne.ReservedOk :=
  reservedOk_of_esrGrows h (esrGrows_tickOne l) (by simp [maskedRegs, Lapic.readReg])

theorem reservedOk_deliver (l : Lapic) (msg : BitVec 40) (h : l.ReservedOk) : (l.deliver msg).lapic.ReservedOk :=
  reservedOk_of_esrGrows h (esrGrows_deliver l msg) (by simp [maskedRegs, Lapic.readReg])

theorem reservedOk_post (l : Lapic) (v : Vec) (tm : Trigger) (h : l.ReservedOk) : (l.post v tm).2.ReservedOk :=
  reservedOk_of_esrGrows h (esrGrows_post l v tm) (by simp [maskedRegs, Lapic.readReg])

theorem reservedOk_esrRecord (l : Lapic) (b : Nat) (hb : b = 2 ∨ b = 5 ∨ b = 6) (h : l.ReservedOk) : (l.esrRecord b).ReservedOk :=
  reservedOk_of_esrGrows h (esrGrows_esrRecord l b hb) (by simp [maskedRegs, Lapic.readReg])

theorem reservedOk_expire (l : Lapic) (h : l.ReservedOk) : l.expire.ReservedOk :=
  reservedOk_of_esrGrows h (esrGrows_expire l) (by simp [maskedRegs, Lapic.readReg])

theorem reservedOk_icrLo (l : Lapic) (v : Word) (h : l.ReservedOk) : ({ l with icrLo := icrLoStored v } : Lapic).ReservedOk :=
  reservedOk_of_one .icrLo h rfl (within_icrLoStored v) (by simp [maskedRegs, Lapic.readReg])

/-- Setting `remote_irr` stays within the LINT registers, which have bit 14 (R36, R150). -/
theorem reservedOk_setRemoteIrr (l : Lapic) (src : LvtSource) (h : l.ReservedOk) : (l.setRemoteIrr src).ReservedOk := by
  cases src with
  | lint0 =>
    exact reservedOk_of_one .lvtLint0 h rfl (within_or .lvtLint0 (h.1 .lvtLint0) (by decide))
      (by simp [maskedRegs, Lapic.readReg, Lapic.setRemoteIrr])
  | lint1 =>
    exact reservedOk_of_one .lvtLint1 h rfl (within_or .lvtLint1 (h.1 .lvtLint1) (by decide))
      (by simp [maskedRegs, Lapic.readReg, Lapic.setRemoteIrr])
  | _ => exact h

/-- An end of interrupt takes bits away from the LINT registers and leaves the others (R180). -/
theorem reservedOk_eoi (l : Lapic) (h : l.ReservedOk) : l.eoi.ReservedOk := by
  obtain ⟨-, he⟩ | ⟨v, -, ⟨-, he⟩ | ⟨-, he⟩⟩ := eoi_cases l <;> rw [he]
  · exact h
  · exact reservedOk_congr h rfl (by simp [maskedRegs, Lapic.readReg])
  · have h0 := reservedOk_of_one (l' := { l with lvtLint0 := ackRemoteIrr l.lvtLint0 v }) .lvtLint0 h rfl
      (within_ackRemoteIrr .lvtLint0 v (h.1 .lvtLint0)) (by simp [maskedRegs, Lapic.readReg])
    exact reservedOk_of_one .lvtLint1 h0 rfl (within_ackRemoteIrr .lvtLint1 v (h.1 .lvtLint1)) (by simp [maskedRegs, Lapic.readReg])

/-- A write of an LVT register other than the timer's stays within it (R91). -/
theorem reservedOk_withLvt (l : Lapic) (r : Reg) (src : LvtSource) (hr : (r, src) ∈ lvtEntries) (v : Word) (h : l.ReservedOk) :
    (l.withLvt src (lvtStored r src v (l.lvt src))).ReservedOk := by
  have hread (w : Word) : (l.withLvt src w).readReg r = w ∧ l.readReg r = l.lvt src ∧
      ∀ r' ∈ maskedRegs, r' ≠ r → (l.withLvt src w).readReg r' = l.readReg r' := by
    simp only [lvtEntries, List.mem_cons, Prod.mk.injEq, List.not_mem_nil, or_false] at hr
    obtain ⟨rfl, rfl⟩ | ⟨rfl, rfl⟩ | ⟨rfl, rfl⟩ | ⟨rfl, rfl⟩ | ⟨rfl, rfl⟩ | ⟨rfl, rfl⟩ := hr <;>
      simp [maskedRegs, Lapic.readReg, Lapic.withLvt, Lapic.lvt]
  obtain ⟨hnew, hold, hothers⟩ := hread (lvtStored r src v (l.lvt src))
  refine reservedOk_of_one r h (withLvt_par ..) ?_ hothers
  rw [hnew]
  exact within_lvtStored r src hr v (hold ▸ h.1 r)

theorem reservedOk_lvtTimer (l : Lapic) (v : Word) (h : l.ReservedOk) :
    ({ l with lvtTimer := lvtStored .lvtTimer .timer v l.lvtTimer } : Lapic).ReservedOk :=
  reservedOk_of_one .lvtTimer h rfl (within_lvtStored_timer v (h.1 .lvtTimer)) (by simp [maskedRegs, Lapic.readReg])

theorem reservedOk_kept : KeptByEveryChange Lapic.ReservedOk := by
  intro l i l' hchange h
  cases hchange with
  | none => exact h
  | reset => exact reservedOk_reset _ h.2
  | tpr v => exact reservedOk_of_one .tpr h rfl (within_write .tpr v) (by simp [maskedRegs, Lapic.readReg])
  | ldr v => exact reservedOk_of_one .ldr h rfl (within_write .ldr v) (by simp [maskedRegs, Lapic.readReg])
  | dfr v => exact reservedOk_of_one .dfr h rfl (within_write .dfr v) (by simp [maskedRegs, Lapic.readReg])
  | svr v => exact reservedOk_of_one .svr h rfl (within_write .svr v) (by simp [maskedRegs, Lapic.readReg])
  | icrHi v => exact reservedOk_of_one .icrHi h rfl (within_write .icrHi v) (by simp [maskedRegs, Lapic.readReg])
  | tdcr v => exact reservedOk_of_one .tdcr h rfl (within_write .tdcr v) (by simp [maskedRegs, Lapic.readReg])
  | lvt r src hr v => exact reservedOk_withLvt l r src hr v h
  | lvtTimerKept v _ => exact reservedOk_lvtTimer l v h
  | lvtTimerDisarmed v => exact reservedOk_congr (reservedOk_lvtTimer l v h) rfl (by simp [maskedRegs, Lapic.readReg])
  | tick n => exact tickTimes_induction (P := Lapic.ReservedOk) reservedOk_tickOne l n.toNat h
  | deadline now _ => exact reservedOk_congr (reservedOk_expire l h) rfl (by simp [maskedRegs, Lapic.readReg])
  | eoi x => exact reservedOk_eoi l h
  | fireRejected i hi => exact reservedOk_esrRecord l 6 (.inr (.inr rfl)) h
  | fireEdge i hi v => exact reservedOk_post l v .edge h
  | fireLevel i hi src v => exact reservedOk_setRemoteIrr _ src (reservedOk_post l v .level h)
  | deliver msg => exact reservedOk_deliver l msg h
  | sent v => exact reservedOk_icrLo l v h
  | sendFailed v b hb => exact reservedOk_esrRecord _ b (hb.imp_right Or.inl) (reservedOk_icrLo l v h)
  | sentToSelf v msg => exact reservedOk_deliver _ msg (reservedOk_icrLo l v h)
  | ticr v => exact reservedOk_congr h rfl (by simp [maskedRegs, Lapic.readReg])
  | tscdl d _ => exact reservedOk_congr h rfl (by simp [maskedRegs, Lapic.readReg])
  | accept v _ => exact reservedOk_congr h (accept_par l v) (by simp [maskedRegs, Lapic.readReg])

/-- Settles O52. Every store is masked and every coerced field lies in bits the register has; ESR and `remote_irr` are such bits too. -/
theorem stepKeepsReservedBitsZero : Obligations.StepKeepsReservedBitsZero := step_every reservedOk_kept

end Sys2Proof.Machine
end

section
/-! PROOFS. The system of instances: what a step performs (R65, R66), that it never stops (R197), that the set of instances stays (R9), and
the reset state (R55). -/

namespace Sys2Proof.Machine

/-! ## Lists with distinct keys -/

/-- A search by a key finds the one member that has it. -/
theorem find?_of_nodup {α κ : Type} [DecidableEq κ] (key : α → κ) (l : List α) (hl : (l.map key).Nodup) (a : α) (ha : a ∈ l) :
    l.find? (fun x => key x = key a) = some a := by
  cases h : l.find? (fun x => key x = key a) with
  | none =>
    have hno := List.find?_eq_none.mp h a ha
    simp at hno
  | some b =>
    have hb : b ∈ l := List.mem_of_find?_eq_some h
    have hkey : key b = key a := by simpa using List.find?_some h
    rw [List.inj_on_of_nodup_map hl hb ha hkey]

/-- Exchanging the member with a key for another element, and keeping the member itself, is a rearrangement. -/
theorem perm_exchange {α κ : Type} [DecidableEq κ] (key : α → κ) (x p : α) (l : List α) (hl : (l.map key).Nodup) (hp : p ∈ l) :
    (p :: l.map fun q => if key q = key p then x else q).Perm (x :: l) := by
  induction l with
  | nil => cases hp
  | cons a l ih =>
    obtain ⟨hout, hrest⟩ := List.nodup_cons.mp hl
    by_cases hkey : key a = key p
    · have hap : p = a := List.inj_on_of_nodup_map hl hp (List.mem_cons_self ..) hkey.symm
      have hothers : (l.map fun q => if key q = key p then x else q) = l :=
        (List.map_congr_left fun q hq => if_neg fun h => hout (List.mem_map.mpr ⟨q, hq, h.trans hkey.symm⟩)).trans (List.map_id' l)
      rw [List.map_cons, if_pos hkey, hothers, hap]
      exact List.Perm.swap ..
    · have hpl : p ∈ l := (List.mem_cons.mp hp).resolve_left fun h => hkey (by rw [h])
      rw [List.map_cons, if_neg hkey]
      exact ((List.Perm.swap ..).trans ((ih hrest hpl).cons a)).trans (List.Perm.swap ..)

/-! ## What a step performs -/

theorem mem_peers_ne_self {s : State} (hs : s.DistinctIds) {p : Lapic} (hp : p ∈ s.peers) : s.self.par.apicId ≠ p.par.apicId := by
  have hnot := (List.nodup_cons.mp hs).1
  exact fun h => hnot (List.mem_map.mpr ⟨p, hp, h.symm⟩)

/-- Seen from itself the system is as it is (R9). -/
theorem focus_self (s : State) : s.focus s.self.par.apicId = some s := if_pos rfl

/-- Seen from a peer, that peer is `self` and the former `self` takes its place (R9). -/
theorem focus_peer (s : State) (hs : s.DistinctIds) (p : Lapic) (hp : p ∈ s.peers) : s.focus p.par.apicId =
    some { s with self := p, peers := s.peers.map fun q => if q.par.apicId = p.par.apicId then s.self else q } := by
  rw [State.focus, if_neg (mem_peers_ne_self hs hp),
    find?_of_nodup (·.par.apicId) s.peers (List.nodup_cons.mp hs).2 p hp]

theorem step_op (s : State) (cpu : ApicId) (cmd : Command) (rest : List Presented) (hq : s.queue = .op cpu cmd :: rest) (t : State)
    (ht : ({ s with queue := rest } : State).focus cpu = some t) : step s = exec (decode cmd) t.takeLooks := by
  simp only [step, hq, Presented.cpu, ht]

theorem step_look (s : State) (cpu target : ApicId) (rest : List Presented) (hq : s.queue = .look cpu target :: rest) (t : State)
    (ht : ({ s with queue := rest } : State).focus cpu = some t) :
    step s = .next (({ s with queue := rest } : State).look cpu target) := by
  simp only [step, hq, Presented.cpu, ht]

theorem step_absent (s : State) (p : Presented) (rest : List Presented) (hq : s.queue = p :: rest)
    (h : p.cpu ∉ s.vcpus.map (·.par.apicId)) : step s = .fault (.noSuchInstance p.cpu) := by
  have hfocus : ({ s with queue := rest } : State).focus p.cpu = none := (focus_none _ p.cpu).mpr h
  simp only [step, hq, hfocus]

/-- An instance that is in the system can be focused on (R9). -/
theorem exists_focus (s : State) (id : ApicId) (h : id ∈ s.vcpus.map (·.par.apicId)) : ∃ t, s.focus id = some t :=
  Option.ne_none_iff_exists'.mp fun hnone => (focus_none s id).mp hnone h

/-- Settles O1. The head of the queue decides which instance is focused on; identifiers are distinct, so the search finds that one. -/
theorem stepPerformsThePresentedOperation : Obligations.StepPerformsThePresentedOperation := by
  refine ⟨fun s hq => ?_, fun s cpu cmd rest hs hq => ?_, fun s cpu target rest hs hq => ⟨step_absent s _ rest hq, fun hin => ?_⟩⟩
  · simp only [step, hq]
  · intro now
    refine ⟨?_, fun p hp hid => ?_, step_absent s _ rest hq⟩
    · rintro rfl
      exact step_op s _ cmd rest hq _ (focus_self _)
    · subst hid
      exact step_op s _ cmd rest hq _ (focus_peer { s with queue := rest } hs p hp)
  · obtain ⟨t, ht⟩ := exists_focus { s with queue := rest } cpu hin
    rw [step_look s cpu target rest hq t ht]
    obtain ⟨u, hu, huid, hlook⟩ | ⟨hnone, hlook⟩ := look_cases { s with queue := rest } cpu target <;> rw [hlook]
    · refine ⟨fun v hv hvid => ?_, fun hout => absurd (List.mem_map.mpr ⟨u, hu, huid⟩) hout⟩
      rw [List.inj_on_of_nodup_map hs hv hu (hvid.trans huid.symm)]
    · exact ⟨fun v hv hvid => absurd hvid (hnone v hv), fun _ => rfl⟩

/-! ## What every operation leaves of the system -/

/-- Every operation answers, keeps the platform and the queue, and keeps every instance's parameters (R10, R197). -/
theorem exec_system (i : Instr) (s : State) : ∃ t, exec i s = .next t ∧ t.platform = s.platform ∧ t.queue = s.queue ∧
    t.vcpus.map (·.par) = s.vcpus.map (·.par) := by
  by_cases hi : ∃ v, i = .wrIcrLo v
  · obtain ⟨v, rfl⟩ := hi
    obtain ⟨b, e, he⟩ | ⟨targets, n, he⟩ := exec_wrIcrLo_cases v s
    · exact ⟨_, he, rfl, rfl, rfl⟩
    · obtain ⟨t, ht, hplatform, hqueue, -, -, -, hvcpus⟩ := deliverAll_spec
        { s with self := { s.self with icrLo := icrLoStored v }, picks := n } targets (s.self.par.apicId ++ icrLoStored v)
      refine ⟨t, he.trans ht, hplatform, hqueue, ?_⟩
      rw [hvcpus, List.map_map]
      refine Eq.trans (List.map_congr_left (g := (·.par)) fun l _ => ?_) rfl
      dsimp only [Function.comp_apply]
      split
      · exact deliver_par l _
      · rfl
  · obtain ⟨l, o, he⟩ := exec_ends i s fun v hv => hi ⟨v, hv⟩
    have hpar := exec_self_par i s _ he
    exact ⟨_, he, rfl, rfl, by simpa [State.vcpus] using hpar⟩

theorem exec_platform (i : Instr) (s t : State) (h : exec i s = .next t) : t.platform = s.platform := by
  obtain ⟨u, hu, hplatform, -, -⟩ := exec_system i s
  cases hu.symm.trans h
  exact hplatform

theorem exec_vcpus_par (i : Instr) (s t : State) (h : exec i s = .next t) : t.vcpus.map (·.par) = s.vcpus.map (·.par) := by
  obtain ⟨u, hu, -, -, hpar⟩ := exec_system i s
  cases hu.symm.trans h
  exact hpar

/-- The identifiers are parameters. -/
theorem vcpus_ids (s : State) : s.vcpus.map (·.par.apicId) = (s.vcpus.map (·.par)).map (·.apicId) := by
  rw [List.map_map]
  rfl

/-! ## The set of instances -/

/-- Seen from another instance the system has the same instances, in another order (R9). -/
theorem focus_perm (s t : State) (hs : s.DistinctIds) (id : ApicId) (h : s.focus id = some t) : t.vcpus.Perm s.vcpus := by
  obtain ⟨-, rfl⟩ | ⟨-, p, hp, rfl, rfl⟩ := focus_cases s t id h
  · exact List.Perm.refl _
  · exact perm_exchange (·.par.apicId) s.self p s.peers (List.nodup_cons.mp hs).2 hp

theorem focus_platform (s t : State) (id : ApicId) (h : s.focus id = some t) : t.platform = s.platform := by
  obtain ⟨-, rfl⟩ | ⟨-, p, -, -, rfl⟩ := focus_cases s t id h <;> rfl

theorem focus_queue (s t : State) (id : ApicId) (h : s.focus id = some t) : t.queue = s.queue := by
  obtain ⟨-, rfl⟩ | ⟨-, p, -, -, rfl⟩ := focus_cases s t id h <;> rfl

/-- The parameters after a step are those before up to order, and the platform is the same (R10). -/
theorem step_par (s t : State) (hs : s.DistinctIds) (h : step s = .next t) :
    (t.vcpus.map (·.par)).Perm (s.vcpus.map (·.par)) ∧ t.platform = s.platform := by
  obtain ⟨-, hidle⟩ | ⟨p, rest, -, ⟨-, hfault⟩ | ⟨u, hfocus, ⟨cmd, -, hop⟩ | ⟨target, -, hlook⟩⟩⟩ := step_cases s
  · cases hidle.symm.trans h
    exact ⟨List.Perm.refl _, rfl⟩
  · cases hfault.symm.trans h
  · have hexec := hop.symm.trans h
    refine ⟨?_, ?_⟩
    · rw [exec_vcpus_par _ _ _ hexec, takeLooks_vcpus]
      exact (focus_perm { s with queue := rest } u hs p.cpu hfocus).map _
    · rw [exec_platform _ _ _ hexec, takeLooks_platform, focus_platform _ u p.cpu hfocus]
  · cases hlook.symm.trans h
    rw [look_vcpus, look_platform]
    exact ⟨List.Perm.refl _, rfl⟩

/-- Settles O57. Focusing rearranges the instances and no operation changes a parameter; the identifiers are parameters. -/
theorem stepKeepsTheSetOfInstances : Obligations.StepKeepsTheSetOfInstances := by
  intro s t hs h
  obtain ⟨hperm, hplatform⟩ := step_par s t hs h
  refine ⟨?_, hperm, hplatform⟩
  rw [State.DistinctIds, vcpus_ids] at hs ⊢
  exact (hperm.map _).nodup_iff.mpr hs

/-! ## No step stops -/

/-- Every identifier of the system is still there when it is seen from another instance (R9). -/
theorem focus_ids (s t : State) (id a : ApicId) (h : s.focus id = some t) (ha : a ∈ s.vcpus.map (·.par.apicId)) :
    a ∈ t.vcpus.map (·.par.apicId) := by
  obtain ⟨-, rfl⟩ | ⟨-, p, hp, rfl, rfl⟩ := focus_cases s t id h
  · exact ha
  · simp only [State.vcpus, List.map_cons, List.mem_cons, List.mem_map, List.map_map, Function.comp_apply] at ha ⊢
    obtain rfl | ⟨q, hq, rfl⟩ := ha
    · exact .inr ⟨p, hp, by rw [if_pos rfl]⟩
    · by_cases hid : q.par.apicId = p.par.apicId
      · exact .inl hid
      · exact .inr ⟨q, hq, by rw [if_neg hid]⟩

/-- With every presented operation addressed, a step answers, and what is still presented stays addressed (R197). -/
theorem step_of_wellAddressed (s : State) (hs : s.WellAddressed) : ∃ t, step s = .next t ∧ t.WellAddressed := by
  obtain ⟨-, hidle⟩ | ⟨p, rest, hq, ⟨hnone, -⟩ | ⟨u, hfocus, hstep⟩⟩ := step_cases s
  · exact ⟨s, hidle, hs⟩
  · exact absurd (hs p (by rw [hq]; exact List.mem_cons_self ..)) ((focus_none { s with queue := rest } p.cpu).mp hnone)
  · have hrest : ∀ q ∈ rest, q.cpu ∈ s.vcpus.map (·.par.apicId) := fun q hq' => hs q (by rw [hq]; exact List.mem_cons_of_mem _ hq')
    obtain ⟨cmd, -, hop⟩ | ⟨target, -, hlook⟩ := hstep
    · obtain ⟨t, ht, -, hqueue, hpar⟩ := exec_system (decode cmd) u.takeLooks
      refine ⟨t, hop.trans ht, fun q hq' => ?_⟩
      rw [hqueue, takeLooks_queue, focus_queue _ u p.cpu hfocus] at hq'
      rw [vcpus_ids, hpar, takeLooks_vcpus, ← vcpus_ids]
      exact focus_ids { s with queue := rest } u p.cpu q.cpu hfocus (hrest q hq')
    · refine ⟨_, hlook, fun q hq' => ?_⟩
      rw [look_queue] at hq'
      rw [look_vcpus]
      exact hrest q hq'

/-- A step that answers is followed by the rest of the run. -/
theorem run_succ (M : Host.Core) (k : Nat) (s t : M.State) (h : M.step s = .next t) : M.run (k + 1) s = M.run k t := by
  simp only [Host.Core.run, h]

theorem safeRun_of_wellAddressed (k : Nat) (s : State) (hs : s.WellAddressed) : SafeRun k s := by
  induction k generalizing s with
  | zero => exact ⟨s, rfl⟩
  | succ k ih =>
    obtain ⟨t, hstep, ht⟩ := step_of_wellAddressed s hs
    obtain ⟨u, hu⟩ := ih t ht
    exact ⟨u, (run_succ Sys2Proof.core k s t hstep).trans hu⟩

/-- Settles O59. Every operation answers, and addressed operations stay addressed because no step takes an instance away. -/
theorem wellAddressedRunsNeverStop : Obligations.WellAddressedRunsNeverStop := by
  refine ⟨fun i s => ?_, fun s k hs => safeRun_of_wellAddressed k s hs⟩
  obtain ⟨t, ht, -⟩ := exec_system i s
  exact ⟨t, ht⟩

/-! ## Reset -/

/-- Settles O21. RESET answers OK with `Lapic.reset` of the instance's parameters, which lists every register. -/
theorem resetRestoresEveryRegister : Obligations.ResetRestoresEveryRegister := fun s => reply_eq s (Lapic.reset s.self.par) .none

/-- Settles O58. Each invariant holds of `Lapic.reset` for every choice of parameters with a legal SVR value. -/
theorem resetMeetsEveryInvariant : Obligations.ResetMeetsEveryInvariant := by
  refine ⟨fun l hl => ?_, by decide, nofun⟩
  have hreset (p : Params) (hp : Params.Legal p) : (Lapic.reset p).ReservedZero ∧ Params.Legal (Lapic.reset p).par ∧
      (Lapic.reset p).ModesLegal ∧ (Lapic.reset p).CountsBounded ∧ (Lapic.reset p).OneTimerArmed ∧ (Lapic.reset p).NoLowVector ∧
      (Lapic.reset p).OneInServicePerClass :=
    ⟨(reservedOk_reset p hp).1, hp, modesLegal_reset p, (timerBounded_reset p).1, (timerBounded_reset p).2, noLowVector_reset p,
      oneInServicePerClass_reset p⟩
  obtain ⟨p, hp, rfl⟩ : ∃ p ∈ [({ apicId := 0#8 } : Params), { apicId := 1#8 }, { apicId := 2#8 }], Lapic.reset p = l := by
    exact List.mem_map.mp hl
  refine hreset p ?_
  revert p
  decide

end Sys2Proof.Machine
end

section
/-! PROOFS. The decoder and the encoder (R73 to R79): decoding inverts encoding on well-formed operations, and encoding gives back the
first word of every decoded command. -/

namespace Sys2Proof

/-- Settles O2. The decoder evaluates each of the ten words. -/
theorem decodeReadsTheSpecsOwnWords : Obligations.DecodeReadsTheSpecsOwnWords := ⟨rfl, rfl, rfl, rfl, rfl, rfl, rfl, rfl, rfl, rfl⟩

/-! ## Register operations -/

theorem decode_rdCommand_reg (r : Reg) : decode (rdCommand (regOffset r)) = rdOf r := by
  rw [decode_rdCommand _ (regOffset_aligned r), regAt_regOffset]
  rfl

theorem decode_wrCommand_reg (r : Reg) (v : Word) : decode (wrCommand (regOffset r) v) = wrOf r v := by
  rw [decode_wrCommand _ v (regOffset_aligned r), regAt_regOffset]
  rfl

theorem encode_rdOf (r : Reg) : encode (rdOf r) = rdCommand (regOffset r) := by
  cases r with
  | isr k | tmr k | irr k => fin_cases k <;> rfl
  | _ => rfl

theorem encode_wrOf (r : Reg) (v : Word) : encode (wrOf r v) = wrCommand (regOffset r) v := by
  cases r with
  | isr k | tmr k | irr k => fin_cases k <;> rfl
  | _ => rfl

/-- A register operation has no operand range of its own. -/
theorem wellFormed_rdOf (r : Reg) : (rdOf r).wellFormed = true := by
  cases r with
  | isr k | tmr k | irr k => fin_cases k <;> rfl
  | _ => rfl

theorem wellFormed_wrOf (r : Reg) (v : Word) : (wrOf r v).wellFormed = true := by
  cases r with
  | isr k | tmr k | irr k => fin_cases k <;> rfl
  | _ => rfl

/-! ## Headers -/

/-- A header is its three fields (R73). -/
theorem header_of_fields (h : BitVec 16) : header (headerIsWrite h) (headerSize h) (headerOffset h) = h := by
  refine BitVec.eq_of_getLsbD_eq fun i hi => ?_
  rw [header, BitVec.getLsbD_append, BitVec.getLsbD_append, headerOffset, headerSize, headerIsWrite, bits, bits]
  by_cases hoff : i < 12
  · simp [hoff]
  · by_cases hsz : i - 12 < 3
    · rw [if_neg hoff, if_pos hsz, BitVec.getLsbD_extractLsb', decide_eq_true hsz, Bool.true_and, Nat.add_sub_of_le (by omega)]
    · obtain rfl : i = 15 := by omega
      simp

/-- A well-formed access is a 4-byte access at an aligned offset (R58). -/
theorem accessOk_iff (sz : BitVec 3) (off : BitVec 12) : accessOk sz off = true ↔ sz = 2#3 ∧ bits off 0 2 = 0#2 := by
  rw [accessOk, Bool.and_eq_true, beq_iff_eq, beq_iff_eq]

/-- A 4-byte header at an aligned offset is read by its register (R89, R90). -/
theorem decodeMmio_of_ok (h : BitVec 16) (d : BitVec 128) (hok : accessOk (headerSize h) (headerOffset h) = true) :
    decodeMmio h d = if headerIsWrite h then (regAt (headerOffset h)).elim (.wrHole (headerOffset h) (bits d 0 32)) (wrOf · (bits d 0 32))
      else (regAt (headerOffset h)).elim (.rdHole (headerOffset h)) rdOf := by
  simp only [decodeMmio, hok]
  cases headerIsWrite h <;> cases regAt (headerOffset h) <;> rfl

/-- The lane of a malformed write is cut to its size once (R73, log 6). -/
theorem laneData_idem (sz : BitVec 3) (d : BitVec 128) : laneData sz (laneData sz d) = laneData sz d := by
  rw [laneData, laneData, BitVec.and_assoc, BitVec.and_self]

/-! ## Decoding what was encoded -/

theorem decode_malformed_read (sz : BitVec 3) (off : BitVec 12) (h : accessOk sz off = false) :
    decode (.mmio (header false sz off) 0#128) = .rdMalformed sz off := by
  have hbad := Machine.decodeMmio_malformed (header false sz off) 0#128 (by simpa using h)
  simpa [decode] using hbad

theorem decode_malformed_write (sz : BitVec 3) (off : BitVec 12) (v : BitVec 128) (h : accessOk sz off = false) (hv : laneData sz v = v) :
    decode (.mmio (header true sz off) v) = .wrMalformed sz off v := by
  have hbad := Machine.decodeMmio_malformed (header true sz off) v (by simpa using h)
  simpa [decode, hv] using hbad

theorem decode_deliverIpi (msg : BitVec 40) : decode (sideCommand 0x08#8 (msg.setWidth 64)) = .deliverIpi msg := by
  refine congrArg Instr.deliverIpi (BitVec.eq_of_getLsbD_eq fun i hi => ?_)
  rw [bits, BitVec.getLsbD_extractLsb', BitVec.getLsbD_setWidth]
  simp [hi, show i < 64 by omega]

/-- A reserved id is outside both listed ranges (R74). -/
theorem wellFormed_portReserved_iff (op : BitVec 8) : (Instr.portReserved op).wellFormed = true ↔
    ¬(0x01 ≤ op.toNat ∧ op.toNat ≤ 0x08) ∧ ¬(0x10 ≤ op.toNat ∧ op.toNat ≤ 0x15) := by
  simp [Instr.wellFormed]
  omega

/-- Settles O3. A register's offset selects it back, a header has its three fields back, and the operand ranges keep the holes, the
malformed accesses and the reserved ids out of every other row. -/
theorem decodeInvertsEncode : Obligations.DecodeInvertsEncode := by
  intro i hi
  cases i with
  | rdHole off =>
    obtain ⟨hok, hhole⟩ := Bool.and_eq_true_iff.mp hi
    rw [encode, decode_rdCommand off ((accessOk_iff _ _).mp hok).2, Option.isNone_iff_eq_none.mp hhole]
    rfl
  | wrHole off v =>
    obtain ⟨hok, hhole⟩ := Bool.and_eq_true_iff.mp hi
    rw [encode, decode_wrCommand off v ((accessOk_iff _ _).mp hok).2, Option.isNone_iff_eq_none.mp hhole]
    rfl
  | rdMalformed sz off => exact decode_malformed_read sz off (Bool.not_eq_true' _ |>.mp hi)
  | wrMalformed sz off v =>
    obtain ⟨hbad, hlane⟩ := Bool.and_eq_true_iff.mp hi
    exact decode_malformed_write sz off v (Bool.not_eq_true' _ |>.mp hbad) (beq_iff_eq.mp hlane)
  | deliverIpi msg => exact decode_deliverIpi msg
  | portReserved op =>
    obtain ⟨hlow, hhigh⟩ := (wellFormed_portReserved_iff op).mp hi
    exact Machine.decodeSide_reserved op 0#64 hlow hhigh
  | reset | tick | tickTsc | wrTscdl | rdTscdl | pendingVector | accept | lvtFireCmci | lvtFireThermal | lvtFirePerfmon | lvtFireLint0
  | lvtFireLint1 | lvtFireError => rfl
    | rdId | rdVersion | rdTpr | rdPpr | rdEoi | rdLdr | rdDfr | rdSvr | rdIsr0 | rdIsr1 | rdIsr2 | rdIsr3 | rdIsr4 | rdIsr5 |
  rdIsr6 | rdIsr7 | rdTmr0 | rdTmr1 | rdTmr2 | rdTmr3 | rdTmr4 | rdTmr5 | rdTmr6 | rdTmr7 | rdIrr0 | rdIrr1 | rdIrr2 | rdIrr3 |
  rdIrr4 | rdIrr5 | rdIrr6 | rdIrr7 | rdEsr | rdLvtCmci | rdIcrLo | rdIcrHi | rdLvtTimer | rdLvtThermal | rdLvtPerfmon |
  rdLvtLint0 | rdLvtLint1 | rdLvtError | rdTicr | rdTccr | rdTdcr =>
    exact decode_rdCommand_reg _
  | _ => exact decode_wrCommand_reg _ _

/-! ## Encoding what was decoded -/

/-- An MMIO command decodes to a well-formed operation with the same header (R73, R85). -/
theorem encode_decodeMmio (h : BitVec 16) (d : BitVec 128) :
    (decodeMmio h d).wellFormed = true ∧ ∃ d', encode (decodeMmio h d) = .mmio h d' := by
  have hfields := header_of_fields h
  cases hok : accessOk (headerSize h) (headerOffset h) with
  | false =>
    rw [Machine.decodeMmio_malformed h d hok]
    cases hw : headerIsWrite h <;> rw [hw] at hfields
    · refine ⟨by simp [Instr.wellFormed, hok], 0#128, ?_⟩
      exact congrArg (Command.mmio · _) hfields
    · refine ⟨by simp [Instr.wellFormed, hok, laneData_idem], laneData (headerSize h) d, ?_⟩
      exact congrArg (Command.mmio · _) hfields
  | true =>
    rw [decodeMmio_of_ok h d hok]
    have hsize : headerSize h = 2#3 := ((accessOk_iff _ _).mp hok).1
    rw [hsize] at hok hfields
    cases hreg : regAt (headerOffset h) with
    | none =>
      have hhole : (accessOk 2#3 (headerOffset h) && (regAt (headerOffset h)).isNone) = true := by rw [hok, hreg]; rfl
      cases hw : headerIsWrite h <;> rw [hw] at hfields
      · exact ⟨hhole, _, congrArg (Command.mmio · _) hfields⟩
      · exact ⟨hhole, _, congrArg (Command.mmio · _) hfields⟩
    | some r =>
      rw [← (regAt_eq_some_iff _ r).mp hreg] at hfields
      cases hw : headerIsWrite h <;> rw [hw] at hfields
      · exact ⟨wellFormed_rdOf r, _, (encode_rdOf r).trans (congrArg (Command.mmio · _) hfields)⟩
      · exact ⟨wellFormed_wrOf r _, _, (encode_wrOf r _).trans (congrArg (Command.mmio · _) hfields)⟩

/-- A port command decodes to a well-formed operation with the same id (R74, R142). -/
theorem encode_decodeSide (op : BitVec 8) (p : BitVec 64) :
    (decodeSide op p).wellFormed = true ∧ ∃ p', encode (decodeSide op p) = .side op p' := by
  unfold decodeSide
  split
  case h_15 =>
    simp only [imp_false] at *
    have hunlisted : ¬(0x01 ≤ op.toNat ∧ op.toNat ≤ 0x08) ∧ ¬(0x10 ≤ op.toNat ∧ op.toNat ≤ 0x15) := by omega
    exact ⟨(wellFormed_portReserved_iff op).mpr hunlisted, _, rfl⟩
  all_goals
    rename_i hid
    refine ⟨rfl, _, congrArg (Command.side · _) ?_⟩
    exact (BitVec.eq_of_toNat_eq hid).symm

/-- Settles O4. The two formats, each with its first word given back. -/
theorem everyCommandDecodesAndKeepsItsFirstWord : Obligations.EveryCommandDecodesAndKeepsItsFirstWord := by
  intro c
  cases c with
  | mmio h d =>
    obtain ⟨hwf, d', hencode⟩ := encode_decodeMmio h d
    refine ⟨hwf, ?_⟩
    simp only [decode, hencode]
  | side op p =>
    obtain ⟨hwf, p', hencode⟩ := encode_decodeSide op p
    refine ⟨hwf, ?_⟩
    simp only [decode, hencode]

end Sys2Proof
end

section
/-! PROOFS. What reads answer (R92 to R137, R173) and that they change nothing (R61); the byte view of the page (R57). -/

namespace Sys2Proof.Machine

/-! ## Register reads -/

/-- Every register read answers the register's value with status OK and changes nothing (R61, R89). -/
theorem exec_rdOf (r : Reg) (s : State) : exec (rdOf r) s = .next (s.answered (.word (s.self.readReg r))) := by
  cases r with
  | isr k | tmr k | irr k => fin_cases k <;> rfl
  | _ => rfl

/-- Settles O7. Each clause is `exec_rdOf` at its register. -/
theorem versionEoiAndStoredRegisterReads : Obligations.VersionEoiAndStoredRegisterReads := fun s =>
  ⟨exec_rdOf .version s, exec_rdOf .tpr s, exec_rdOf .eoi s, exec_rdOf .ldr s, exec_rdOf .dfr s, exec_rdOf .svr s, exec_rdOf .esr s,
    exec_rdOf .lvtCmci s, exec_rdOf .icrLo s, exec_rdOf .icrHi s, exec_rdOf .lvtTimer s, exec_rdOf .lvtThermal s,
    exec_rdOf .lvtPerfmon s, exec_rdOf .lvtLint0 s, exec_rdOf .lvtLint1 s, exec_rdOf .lvtError s, exec_rdOf .ticr s, exec_rdOf .tccr s,
    exec_rdOf .tdcr s⟩

/-- Settles O8. A bank register is a field of its bitmap (`bankWord_bit`). -/
theorem bankReadsReturnTheirThirtyTwoVectors : Obligations.BankReadsReturnTheirThirtyTwoVectors := fun s k =>
  ⟨⟨_, exec_rdOf (.isr k) s, bankWord_bit s.self.isr k⟩, ⟨_, exec_rdOf (.tmr k) s, bankWord_bit s.self.tmr k⟩,
    ⟨_, exec_rdOf (.irr k) s, bankWord_bit s.self.irr k⟩⟩

/-! ## PPR -/

/-- With nothing in service the Processor Priority is the task priority (R173). -/
theorem ppr_of_isr_empty (l : Lapic) (h : l.isr = 0#256) : l.ppr = l.tprByte := by
  rw [Lapic.ppr, (hsb_eq_none l.isr).mpr h]
  exact if_pos (BitVec.le_def.mpr (Nat.zero_le _))

/-- With `v` the highest in service, the greater of its class and the task priority's decides (R173). -/
theorem ppr_of_highest (l : Lapic) (v : Vec) (h : hsb l.isr = some v) :
    l.ppr = if cls v ≤ bits l.tpr 4 4 then bits l.tpr 0 8 else cls v ++ 0#4 := by
  rw [Lapic.ppr, h, ← cls_tprByte]
  rfl

/-- Settles O9. The read answers `Lapic.ppr`, and the greatest vector in service is the one `hsb` names. -/
theorem pprReadIsMaximumOfTaskAndServiceClass : Obligations.PprReadIsMaximumOfTaskAndServiceClass := by
  intro s
  have hread : exec .rdPpr s = .next (s.answered (.word (s.self.ppr.setWidth 32))) := exec_rdOf .ppr s
  rw [hread]
  refine ⟨fun hempty => ?_, fun v hv hmax => ?_⟩
  · rw [ppr_of_isr_empty s.self hempty]
    rfl
  · rw [ppr_of_highest s.self v (hsb_eq_some_of_greatest _ v hv hmax), apply_ite (BitVec.setWidth 32)]

/-! ## No read has a side effect -/

/-- Settles O10. Register reads end as `exec_rdOf` says; the other four kinds write the outputs alone. -/
theorem readsChangeNoState : Obligations.ReadsChangeNoState := by
  rintro i s (⟨r, rfl⟩ | ⟨off, rfl⟩ | ⟨sz, off, rfl⟩ | rfl | rfl)
  · exact ⟨_, exec_rdOf r s, rfl⟩
  · exact ⟨_, rfl, rfl⟩
  · exact ⟨_, rfl, rfl⟩
  · exact ⟨_, rfl, rfl⟩
  · obtain ⟨o, h⟩ := execPendingVector_ends s
    exact ⟨_, h, rfl⟩

/-! ## The byte view (R57) -/

/-- An aligned 4-byte read answers the word at the offset, a hole's included (R59, R89). -/
theorem exec_decode_rdCommand (s : State) (off : BitVec 12) (h : bits off 0 2 = 0#2) :
    exec (decode (rdCommand off)) s = .next (s.answered (.word (s.self.readOffset off))) := by
  rw [decode_rdCommand off h, Lapic.readOffset]
  cases regAt off with
  | none => rfl
  | some r => exact exec_rdOf r s

/-- The offset of a page address is its low 12 bits. -/
theorem bits_page_append (page : BitVec 52) (off : BitVec 12) :
    bits (page ++ off : BitVec 64) 0 12 = off ∧ bits (page ++ off : BitVec 64) 12 52 = page :=
  ⟨BitVec.extractLsb'_append_eq_right, BitVec.extractLsb'_append_eq_left⟩

/-- An aligned offset is a number of words (R58). -/
theorem aligned_eq_append (off : BitVec 12) (h : bits off 0 2 = 0#2) : off = bits off 2 10 ++ 0#2 := by
  refine BitVec.eq_of_getLsbD_eq fun i hi => ?_
  rw [BitVec.getLsbD_append]
  by_cases hlow : i < 2
  · have hbit := congrArg (·.getLsbD i) h
    simpa [bits, hlow] using hbit
  · simp [bits, hlow, show i - 2 < 10 by omega, show 2 + (i - 2) = i by omega]

theorem toNat_append_eq_add {m n : Nat} (x : BitVec m) (y : BitVec n) : (x ++ y).toNat = x.toNat * 2 ^ n + y.toNat := by
  rw [BitVec.toNat_append, ← Nat.shiftLeft_add_eq_or_of_lt y.isLt, Nat.shiftLeft_eq]

/-- Byte `j` of an aligned word is at the page, the word's number and `j` (R57). -/
theorem byte_address (page : BitVec 52) (word : BitVec 10) (j : Nat) (hj : j < 4) :
    (page ++ 0#12 : BitVec 64) + (word ++ 0#2 : BitVec 12).setWidth 64 + BitVec.ofNat 64 j =
      page ++ (word ++ BitVec.ofNat 2 j : BitVec 12) := by
  apply BitVec.eq_of_toNat_eq
  have hpage := page.isLt
  have hword := word.isLt
  simp only [BitVec.toNat_add, toNat_append_eq_add, BitVec.toNat_setWidth, BitVec.toNat_ofNat]
  omega

/-- The byte address is turned into the word's offset by dropping the byte number. -/
theorem word_of_byte_offset (word : BitVec 10) (j : BitVec 2) : (word ++ j : BitVec 12) &&& 0xFFC#12 = word ++ 0#2 := by
  have hmask : 0xFFC#12 = BitVec.allOnes 10 ++ 0#2 := by decide
  rw [hmask, BitVec.and_append, BitVec.and_allOnes, BitVec.and_zero]

/-- The byte at an address of the page is a byte of the word it lies in (R57). -/
theorem busByte_of_page (s : State) (word : BitVec 10) (j : BitVec 2) :
    s.busByte (s.platform.mmioPage ++ (word ++ j : BitVec 12)) = some (bits (s.self.readOffset (word ++ 0#2)) (8 * j.toNat) 8) := by
  obtain ⟨hoff, hpage⟩ := bits_page_append s.platform.mmioPage (word ++ j)
  have hbyte : bits (s.platform.mmioPage ++ (word ++ j : BitVec 12) : BitVec 64) 0 2 = j := by
    calc bits (s.platform.mmioPage ++ (word ++ j : BitVec 12) : BitVec 64) 0 2
      _ = bits (bits (s.platform.mmioPage ++ (word ++ j : BitVec 12) : BitVec 64) 0 12) 0 2 :=
        (BitVec.extractLsb'_extractLsb'_of_le (by decide)).symm
      _ = bits (word ++ j : BitVec 12) 0 2 := by rw [hoff]
      _ = j := BitVec.extractLsb'_append_eq_right
  rw [State.busByte, if_pos hpage, hoff, hbyte, word_of_byte_offset]

/-- Outside the page the byte view shows nothing (log 24). -/
theorem busByte_of_outside (s : State) (a : BitVec 64) (h : a < s.platform.mmioBase ∨ s.platform.mmioBase + 0xFFF#64 < a) :
    s.busByte a = none := by
  refine if_neg fun hpage => ?_
  have hnum : a.toNat / 2 ^ 12 = s.platform.mmioPage.toNat := by
    rw [← hpage, bits, BitVec.extractLsb'_toNat, Nat.shiftRight_eq_div_pow, Nat.mod_eq_of_lt]
    have := a.isLt
    omega
  have hbase : s.platform.mmioBase.toNat = s.platform.mmioPage.toNat * 2 ^ 12 + 0 := toNat_append_eq_add _ _
  have hlt := s.platform.mmioPage.isLt
  simp only [BitVec.lt_def, BitVec.toNat_add, BitVec.toNat_ofNat, hbase] at h
  omega

/-- Settles O60. The page is page-aligned, so a byte address falls apart into page, word and byte number without a carry. -/
theorem busBytesAreLittleEndian : Obligations.BusBytesAreLittleEndian := by
  refine fun s => ⟨(bits_page_append _ _).1, fun off haligned => ?_, busByte_of_outside s⟩
  refine ⟨_, exec_decode_rdCommand s off haligned, fun j hj => ?_⟩
  have hbytes := busByte_of_page s (bits off 2 10) (BitVec.ofNat 2 j)
  rw [← byte_address _ _ j hj, ← aligned_eq_append off haligned, BitVec.toNat_ofNat, Nat.mod_eq_of_lt hj] at hbytes
  exact hbytes

end Sys2Proof.Machine
end

section
/-! PROOFS. Coercion (R147), the decoded view of an LVT register (R145), and the read-back of every register write (the spec's property
1). -/

namespace Sys2Proof.Machine

/-! ## Coercion -/

/-- The step of `coerce`'s fold: the greater of two patterns. -/
def greater {w : Nat} (best x : BitVec w) : BitVec w := if best < x then x else best

theorem le_greater {w : Nat} (a b : BitVec w) : a ≤ greater a b ∧ b ≤ greater a b := by
  unfold greater
  split <;> rename_i h
  · exact ⟨BitVec.le_of_lt h, BitVec.le_refl _⟩
  · exact ⟨BitVec.le_refl _, BitVec.not_lt.mp h⟩

theorem greater_mem {w : Nat} (a b : BitVec w) : greater a b = a ∨ greater a b = b := by
  unfold greater
  split
  · exact .inr rfl
  · exact .inl rfl

/-- The fold ends at one of the patterns it has seen, and none of them exceeds it. -/
theorem foldl_greater {w : Nat} (xs : List (BitVec w)) (b : BitVec w) :
    xs.foldl greater b ∈ b :: xs ∧ ∀ x ∈ b :: xs, x ≤ xs.foldl greater b := by
  induction xs generalizing b with
  | nil => simp
  | cons y ys ih =>
    obtain ⟨hmem, hmax⟩ := ih (greater b y)
    obtain ⟨hb, hy⟩ := le_greater b y
    have hbest := hmax (greater b y) (List.mem_cons_self ..)
    refine ⟨?_, fun x hx => ?_⟩
    · obtain heq | hin := List.mem_cons.mp hmem
      · rw [List.foldl_cons, heq]
        obtain h | h := greater_mem b y <;> simp [h]
      · exact List.mem_cons_of_mem _ (List.mem_cons_of_mem _ hin)
    · obtain rfl | hx := List.mem_cons.mp hx
      · exact BitVec.le_trans hb hbest
      · obtain rfl | hx := List.mem_cons.mp hx
        · exact BitVec.le_trans hy hbest
        · exact hmax x (List.mem_cons_of_mem _ hx)

theorem coerce_eq_foldl {w : Nat} (legal : List (BitVec w)) (p : BitVec w) :
    coerce legal p = (legal.filter (· ≤ p)).foldl greater 0#w := rfl

/-- Settles O20. `coerce` folds the maximum over the legal patterns not above `p`, starting from 0, which is one of them. -/
theorem coercionIsGreatestLegalValueNotAbove : Obligations.CoercionIsGreatestLegalValueNotAbove := by
  intro w legal p hzero
  obtain ⟨hmem, hmax⟩ := foldl_greater (legal.filter (· ≤ p)) 0#w
  rw [← coerce_eq_foldl] at hmem hmax
  have hin : coerce legal p ∈ legal ∧ coerce legal p ≤ p := by
    obtain h | h := List.mem_cons.mp hmem
    · rw [h]
      exact ⟨hzero, BitVec.le_def.mpr (Nat.zero_le _)⟩
    · simpa using h
  have hgreatest (q : BitVec w) (hq : q ∈ legal) (hle : q ≤ p) : q ≤ coerce legal p :=
    hmax q (List.mem_cons_of_mem _ (by simpa using ⟨hq, hle⟩))
  exact ⟨hin.1, hin.2, hgreatest, fun hp => BitVec.le_antisymm hin.2 (hgreatest p hp (BitVec.le_refl _))⟩

/-! ## LVT_ERROR -/

/-- Settles O19. LVT_ERROR has no delivery mode field, so its write is the masked store. -/
theorem lvtErrorWriteDropsDeliveryMode : Obligations.LvtErrorWriteDropsDeliveryMode := by
  refine fun s v => ⟨_, wrote_eq s _, fun i _ => ?_⟩
  rw [lvtStored_of_no_mode .lvtError .error v _ (by decide) (by decide), getLsbD_maskedStore]
  rfl

/-! ## The decoded view -/

/-- The fields of an encoded entry, bit by bit (R145). -/
theorem getLsbD_encodeLvt (e : LvtEntry) (i : Nat) (hi : i < 32) : (encodeLvt e).getLsbD i =
    if 17 ≤ i ∧ i < 19 then ((e.timerMode.map TimerMode.toBits).getD 0#2).getLsbD (i - 17)
    else if i = 16 then e.mask else if i = 15 then decide (e.trigger = .level) else if i = 14 then e.remoteIrr
    else if i = 13 then e.polarity else if 8 ≤ i ∧ i < 11 then e.deliveryMode.toBits.getLsbD (i - 8)
    else if i < 8 then e.vector.getLsbD i else false := by
  have hbit (lo : Nat) (b : Bool) (x : Bool) : (if lo ≤ i ∧ i < lo + 1 then (BitVec.ofBool b).getLsbD (i - lo) else x) =
      if i = lo then b else x := by
    by_cases h : i = lo
    · subst h
      simp
    · rw [if_neg h, if_neg (by omega)]
  unfold encodeLvt
  simp only [getLsbD_setBits _ _ _ i hi, hbit, Nat.zero_le, true_and, Nat.zero_add, Nat.sub_zero, BitVec.getLsbD_zero]
  cases e.timerMode <;> rfl

/-- The delivery mode of a legal pattern has that pattern (R36, R146). -/
theorem toBits_ofBits_of_legal (src : LvtSource) (p : BitVec 3) (h : p ∈ legalModes src) : (DeliveryMode.ofBits p).toBits = p := by
  revert p
  cases src <;> decide

theorem toBits_timerMode_of_legal (p : BitVec 2) (h : p ∈ legalTimerMode) : (TimerMode.ofBits p).toBits = p := by
  revert p
  decide

/-- Each local source with its register (R144). -/
def lvtSources : List (LvtSource × Reg) :=
  [(.timer, .lvtTimer), (.thermal, .lvtThermal), (.perfmon, .lvtPerfmon), (.lint0, .lvtLint0), (.lint1, .lvtLint1), (.error, .lvtError),
    (.cmci, .lvtCmci)]

/-- An LVT register has no bit outside the fields of its entry (R36, R77). -/
theorem lvtSources_fields : ∀ p ∈ lvtSources, ∀ i < 32, (readableBits p.2).getLsbD i = true →
    i < 8 ∨ (8 ≤ i ∧ i < 11) ∨ (13 ≤ i ∧ i < 16 ∧ p.1.isLint = true) ∨ i = 16 ∨ (17 ≤ i ∧ i < 19 ∧ p.1 = .timer) := by decide

/-- A bit outside the entry's fields is zero in every value the register can hold. -/
theorem getLsbD_of_no_field {src : LvtSource} {r : Reg} (hr : (src, r) ∈ lvtSources) {raw : Word} (hraw : Within r raw) (i : Nat)
    (hi : i < 32) (h : ¬(i < 8 ∨ (8 ≤ i ∧ i < 11) ∨ (13 ≤ i ∧ i < 16 ∧ src.isLint = true) ∨ i = 16 ∨ (17 ≤ i ∧ i < 19 ∧ src = .timer))) :
    raw.getLsbD i = false :=
  Bool.eq_false_iff.mpr fun hbit => h (lvtSources_fields (src, r) hr i hi ((within_iff r raw).mp hraw i hi hbit))

/-- A LINT field of the view is the register's bit, for the other sources too: they have no such bit. -/
theorem isLint_and_getLsbD {src : LvtSource} {r : Reg} (hr : (src, r) ∈ lvtSources) {raw : Word} (hraw : Within r raw) (i : Nat)
    (hlo : 13 ≤ i) (hhi : i < 16) : (src.isLint && raw.getLsbD i) = raw.getLsbD i := by
  cases hlint : src.isLint with
  | true => rw [Bool.true_and]
  | false => rw [Bool.false_and, getLsbD_of_no_field hr hraw i (by omega) (by simp only [hlint, Bool.false_eq_true, and_false, false_or]; omega)]

theorem ofBool_eq_level (b : Bool) : decide (Trigger.ofBool b = .level) = b := by cases b <;> rfl

/-- The timer mode field of the view is the register's, for the other sources too: they have no such field. -/
theorem getLsbD_timerMode {src : LvtSource} {r : Reg} (hr : (src, r) ∈ lvtSources) {raw : Word} (hraw : Within r raw)
    (hlegal : bits raw 17 2 ∈ legalTimerMode) (i : Nat) (hlo : 17 ≤ i) (hhi : i < 19) :
    (((decodeLvt src raw).timerMode.map TimerMode.toBits).getD 0#2).getLsbD (i - 17) = raw.getLsbD i := by
  have hfield : (bits raw 17 2).getLsbD (i - 17) = raw.getLsbD i := by
    simp [bits, show i - 17 < 2 by omega, Nat.add_sub_of_le hlo]
  by_cases htimer : src = .timer
  · rw [← hfield]
    simp [decodeLvt, htimer, toBits_timerMode_of_legal _ hlegal]
  · rw [getLsbD_of_no_field hr hraw i (by omega) (by simp only [htimer, and_false, or_false]; omega)]
    simp [decodeLvt, htimer]

/-- Settles O23. Each field of the view is the register's own, and the register has no other bit. -/
theorem lvtEncodeInvertsDecode : Obligations.LvtEncodeInvertsDecode := by
  intro src r hr raw hraw hmode htimer
  have hdelivery : (decodeLvt src raw).deliveryMode.toBits = bits raw 8 3 := by
    rw [decodeLvt_deliveryMode src raw hmode, toBits_ofBits_of_legal src _ hmode]
  refine BitVec.eq_of_getLsbD_eq fun i hi => ?_
  rw [getLsbD_encodeLvt _ i hi]
  split_ifs with h17 h16 h15 h14 h13 h8 h0
  · exact getLsbD_timerMode hr hraw htimer i h17.1 h17.2
  · rw [h16]
    rfl
  · rw [h15]
    exact (ofBool_eq_level _).trans (isLint_and_getLsbD hr hraw 15 (by decide) (by decide))
  · rw [h14]
    exact isLint_and_getLsbD hr hraw 14 (by decide) (by decide)
  · rw [h13]
    exact isLint_and_getLsbD hr hraw 13 (by decide) (by decide)
  · rw [hdelivery]
    simp [bits, show i - 8 < 3 by omega, Nat.add_sub_of_le h8.1]
  · simp [decodeLvt, bits, h0]
  · exact (getLsbD_of_no_field hr hraw i hi (by omega)).symm

/-! ## Writes read back -/

/-- Putting a field's own bits back changes nothing. -/
theorem setBits_bits (v : Word) (lo w : Nat) : setBits v lo (bits v lo w) = v := by
  refine BitVec.eq_of_getLsbD_eq fun i hi => ?_
  rw [getLsbD_setBits _ _ _ i hi]
  split <;> rename_i h
  · rw [bits, BitVec.getLsbD_extractLsb', decide_eq_true (by omega), Bool.true_and, Nat.add_sub_of_le h.1]
  · rfl

/-- A write of legal mode fields coerces nothing: it is the masked store (R90, R91). -/
theorem lvtStored_of_legal (r : Reg) (src : LvtSource) (v old : Word) (hfield : bits (writeMask r) 8 3 = 7#3) (hsrc : src ≠ .timer)
    (hlegal : bits v 8 3 ∈ legalModes src) : lvtStored r src v old = maskedStore (writeMask r) v old := by
  rw [lvtStored_deliveryMode r src v old hfield hsrc, coerce_legalModes_of_mem src _ hlegal,
    ← bits_maskedStore (writeMask r) v old 8 3 hfield, setBits_bits]

theorem lvtStored_timer_of_legal (v old : Word) (hlegal : bits v 17 2 ∈ legalTimerMode) :
    lvtStored .lvtTimer .timer v old = maskedStore (writeMask .lvtTimer) v old := by
  rw [lvtStored_timer, coerce_legalTimerMode_of_mem _ hlegal,
    ← bits_maskedStore (writeMask .lvtTimer) v old 17 2 (by decide), setBits_bits]

theorem icrLoStored_of_legal (v : Word) (hlegal : bits v 8 3 ∈ legalIcr) : icrLoStored v = v &&& writeMask .icrLo := by
  have hcoerce : coerce legalIcr (bits (v &&& writeMask .icrLo) 8 3) = bits (v &&& writeMask .icrLo) 8 3 := by
    refine coerce_legalIcr_of_mem _ ?_
    have hmask : bits (writeMask .icrLo) 8 3 = BitVec.allOnes 3 := by decide
    have hand : bits (v &&& writeMask .icrLo) 8 3 = bits v 8 3 &&& bits (writeMask .icrLo) 8 3 := BitVec.extractLsb'_and
    rw [hand, hmask, BitVec.and_allOnes]
    exact hlegal
  rw [icrLoStored, hcoerce, setBits_bits]

/-- A register that has no bit outside its write mask is wholly replaced (log 14). -/
theorem maskedStore_of_within (wm v old : Word) (h : old &&& ~~~wm = 0#32) : maskedStore wm v old = v &&& wm := by
  rw [maskedStore, h, BitVec.or_zero]

/-- A register without writable bits is kept (R85 d). -/
theorem maskedStore_zero (v old : Word) : maskedStore 0#32 v old = old := by
  rw [maskedStore, BitVec.and_zero, BitVec.zero_or, BitVec.not_zero, BitVec.and_allOnes]

theorem maskedStore_allOnes (v old : Word) : maskedStore 0xFFFFFFFF#32 v old = v := by
  have hones : 0xFFFFFFFF#32 = BitVec.allOnes 32 := by decide
  rw [maskedStore, hones, BitVec.and_allOnes, BitVec.not_allOnes, BitVec.and_zero, BitVec.or_zero]

/-- WR_ICR_LO completes with the stored value in ICR_LO and ICR_HI kept, whether or not the send succeeds (R119, R186). -/
theorem exec_wrIcrLo_stored (v : Word) (s : State) :
    ∃ t, exec (.wrIcrLo v) s = .next t ∧ t.self.icrLo = icrLoStored v ∧ t.self.icrHi = s.self.icrHi := by
  obtain ⟨b, e, h⟩ | ⟨targets, n, h⟩ := exec_wrIcrLo_cases v s
  · exact ⟨_, h, rfl, rfl⟩
  · refine ⟨_, h, ?_⟩
    dsimp only
    split
    · exact ⟨deliver_icrLo _ _, deliver_icrHi _ _⟩
    · exact ⟨rfl, rfl⟩

/-- A write of a bank register leaves the instance as it was (R109, R111, R113). -/
theorem exec_wrOf_readOnly (r : Reg) (v : Word) (s : State) (h : writeMask r = 0#32) (heoi : r ≠ .eoi) :
    exec (wrOf r v) s = .next (s.answered .none) := by
  cases r with
  | isr k => exact (exec_wrOf_bank k v s).1
  | tmr k => exact (exec_wrOf_bank k v s).2.1
  | irr k => exact (exec_wrOf_bank k v s).2.2
  | eoi => exact absurd rfl heoi
  | id | version | ppr | esr | tccr => rfl
  | _ => exact absurd h (by decide)

/-- After a write that coerces nothing the register holds the masked store of the value (R90). -/
theorem exec_wrOf_readReg (r : Reg) (v : Word) (s : State) (hzero : s.self.ReservedZero) (hlegal : ModeFieldsLegal r v) :
    ∃ t, exec (wrOf r v) s = .next t ∧ t.self.readReg r = maskedStore (writeMask r) v (s.self.readReg r) := by
  cases r with
  | eoi => exact ⟨_, exec_wrEoi v s, (maskedStore_zero v 0#32).symm⟩
  | id | version | ppr | isr | tmr | irr | esr | tccr => exact ⟨_, exec_wrOf_readOnly _ v s rfl nofun, (maskedStore_zero v _).symm⟩
  | tpr => exact ⟨_, rfl, (maskedStore_of_within _ v _ (hzero .tpr)).symm⟩
  | ldr => exact ⟨_, rfl, (maskedStore_of_within _ v _ (hzero .ldr)).symm⟩
  | dfr => exact ⟨_, rfl, (maskedStore_of_within _ v _ (hzero .dfr)).symm⟩
  | svr => exact ⟨_, rfl, (maskedStore_of_within _ v _ (hzero .svr)).symm⟩
  | icrHi => exact ⟨_, rfl, (maskedStore_of_within _ v _ (hzero .icrHi)).symm⟩
  | tdcr => exact ⟨_, rfl, (maskedStore_of_within _ v _ (hzero .tdcr)).symm⟩
  | ticr => exact ⟨_, exec_wrTicr v s, (maskedStore_allOnes v _).symm⟩
  | icrLo =>
    obtain ⟨t, ht, hstored, -⟩ := exec_wrIcrLo_stored v s
    refine ⟨t, ht, hstored.trans ?_⟩
    rw [icrLoStored_of_legal v hlegal]
    exact (maskedStore_of_within _ v _ (hzero .icrLo)).symm
  | lvtTimer =>
    refine ⟨_, exec_wrLvtTimer v s, Eq.trans ?_ (lvtStored_timer_of_legal v _ hlegal)⟩
    rw [updated_self]
    split <;> rfl
  | lvtError => exact ⟨_, rfl, lvtStored_of_no_mode .lvtError .error v _ (by decide) nofun⟩
  | lvtCmci => exact ⟨_, rfl, lvtStored_of_legal .lvtCmci .cmci v _ (by decide) nofun hlegal⟩
  | lvtThermal => exact ⟨_, rfl, lvtStored_of_legal .lvtThermal .thermal v _ (by decide) nofun hlegal⟩
  | lvtPerfmon => exact ⟨_, rfl, lvtStored_of_legal .lvtPerfmon .perfmon v _ (by decide) nofun hlegal⟩
  | lvtLint0 => exact ⟨_, rfl, lvtStored_of_legal .lvtLint0 .lint0 v _ (by decide) nofun hlegal⟩
  | lvtLint1 => exact ⟨_, rfl, lvtStored_of_legal .lvtLint1 .lint1 v _ (by decide) nofun hlegal⟩

/-- Settles O13. Both reads answer the register, and the write leaves the masked store of the value in it. -/
theorem writeThenReadReturnsMaskedValue : Obligations.WriteThenReadReturnsMaskedValue := by
  intro r v s hzero hlegal
  obtain ⟨t, ht, hread⟩ := exec_wrOf_readReg r v s hzero hlegal
  refine ⟨_, t, exec_rdOf r s, ht, ?_⟩
  rw [exec_rdOf, hread]
  rfl

end Sys2Proof.Machine
end

section
/-! PROOFS. Sends (R182 to R188): how a destination resolves, in which order a send's checks come, and whom it delivers to. -/

namespace Sys2Proof.Machine

/-! ## Destinations (R184) -/

theorem mem_ids_iff (s : State) (id : ApicId) : id ∈ s.vcpus.map (·.par.apicId) ↔ ∃ t ∈ s.vcpus, t.par.apicId = id := List.mem_map

theorem resolve_self (s : State) (icr : IcrValue) (h : icr.shorthand = .self) : s.resolve icr = [s.self.par.apicId] := by
  rw [State.resolve, h]

theorem resolve_allIncludingSelf (s : State) (icr : IcrValue) (h : icr.shorthand = .allIncludingSelf) :
    s.resolve icr = s.vcpus.map (·.par.apicId) := by
  rw [State.resolve, h]

theorem resolve_allExcludingSelf (s : State) (icr : IcrValue) (h : icr.shorthand = .allExcludingSelf) :
    s.resolve icr = (s.vcpus.map (·.par.apicId)).filter (· ≠ s.self.par.apicId) := by
  rw [State.resolve, h]

theorem resolve_physical (s : State) (icr : IcrValue) (h : icr.shorthand = .none) (hd : icr.destMode = .physical) :
    s.resolve icr = (s.vcpus.map (·.par.apicId)).filter (· = icr.destination) := by
  rw [State.resolve, h, hd]

theorem resolve_logical (s : State) (icr : IcrValue) (h : icr.shorthand = .none) (hd : icr.destMode = .logical) :
    s.resolve icr = s.resolveLogical icr.destination := by
  rw [State.resolve, h, hd]

/-- The flat match or the cluster match, as DFR says (R184). -/
theorem logicalMatch_iff (ldr dfr : Word) (dest : BitVec 8) : logicalMatch ldr dfr dest = true ↔
    bits dfr 28 4 = 0xF#4 ∧ bits ldr 24 8 &&& dest ≠ 0#8 ∨
    bits dfr 28 4 = 0x0#4 ∧ bits ldr 28 4 = bits dest 4 4 ∧ bits ldr 24 4 &&& bits dest 0 4 ≠ 0#4 := by
  unfold logicalMatch
  split_ifs with hflat hcluster
  · simp [hflat]
  · simp [hcluster]
  · simp [hflat, hcluster]

/-- What a send reads of an instance, by the instance's identifier (R184, log 27). -/
theorem logicalView_eq (s : State) (t : Lapic) (id : ApicId) (h : t.par.apicId = id) :
    let first := s.seen.find? fun k => k.target = id
    s.logicalView t = ((first.map (·.ldr)).getD t.ldr, (first.map (·.dfr)).getD t.dfr) := by
  subst h
  rw [State.logicalView]
  cases s.seen.find? (·.target = t.par.apicId) <;> rfl

theorem mem_resolveLogical_flatCluster (s : State) (dest : BitVec 8) (id : ApicId) (h : s.platform.logical = .flatCluster) :
    id ∈ s.resolveLogical dest ↔
      ∃ t ∈ s.vcpus, t.par.apicId = id ∧ logicalMatch (s.logicalView t).1 (s.logicalView t).2 dest = true := by
  simp only [State.resolveLogical, h, List.mem_map, List.mem_filter]
  constructor
  · rintro ⟨t, ⟨ht, hmatch⟩, hid⟩
    exact ⟨t, ht, hid, hmatch⟩
  · rintro ⟨t, ht, hid, hmatch⟩
    exact ⟨t, ⟨ht, hmatch⟩, hid⟩

theorem mem_resolveLogical_delegated (s : State) (dest : BitVec 8) (id : ApicId) (rows : List LogicalRow)
    (h : s.platform.logical = .delegated rows) : id ∈ s.resolveLogical dest ↔ (∃ t ∈ s.vcpus, t.par.apicId = id) ∧
      ∃ r ∈ rows, r.sender = s.self.par.apicId ∧ r.dest = dest ∧ id ∈ r.targets := by
  simp only [State.resolveLogical, h, List.mem_filter, List.any_eq_true, Bool.and_eq_true, decide_eq_true_eq, List.contains_iff_mem,
    mem_ids_iff, and_assoc]

/-- Settles O42. The shorthand, then the destination mode, then the platform's match select one clause of `resolve`. -/
theorem destinationResolution : Obligations.DestinationResolution := by
  refine fun s icr id => ⟨fun h => ?_, fun h => ?_, fun h => ?_, fun h hd => ?_, fun h hd hl => ?_, fun rows h hd hl => ?_⟩
  · rw [resolve_self s icr h, List.mem_singleton]
  · rw [resolve_allIncludingSelf s icr h, mem_ids_iff]
  · rw [resolve_allExcludingSelf s icr h, List.mem_filter, mem_ids_iff, decide_eq_true_iff]
  · rw [resolve_physical s icr h hd, List.mem_filter, mem_ids_iff, decide_eq_true_iff]
  · rw [resolve_logical s icr h hd, mem_resolveLogical_flatCluster s _ id hl]
    refine exists_congr fun t => and_congr_right fun _ => and_congr_right fun hid => ?_
    rw [logicalMatch_iff, logicalView_eq s t id hid]
  · rw [resolve_logical s icr h hd, mem_resolveLogical_delegated s _ id rows hl]

/-- Every target is an instance of the system (R184). -/
theorem mem_ids_of_mem_resolve (s : State) (icr : IcrValue) (id : ApicId) (h : id ∈ s.resolve icr) :
    ∃ t ∈ s.vcpus, t.par.apicId = id := by
  obtain ⟨hself, hall, hothers, hphysical, hflat, hdelegated⟩ := destinationResolution s icr id
  cases hs : icr.shorthand with
  | self => exact ⟨s.self, List.mem_cons_self .., ((hself hs).mp h).symm⟩
  | allIncludingSelf => exact (hall hs).mp h
  | allExcludingSelf => exact ((hothers hs).mp h).1
  | none =>
    cases hd : icr.destMode with
    | physical => exact ((hphysical hs hd).mp h).1
    | logical =>
      cases hl : s.platform.logical with
      | flatCluster =>
        obtain ⟨t, ht, hid, -⟩ := (hflat hs hd hl).mp h
        exact ⟨t, ht, hid⟩
      | delegated rows => exact ((hdelegated rows hs hd hl).mp h).1

/-! ## The fields of the assembled ICR (R82) -/

theorem shorthand_eq_none_iff (hi lo : Word) : (assembleIcr hi lo).shorthand = .none ↔ bits lo 18 2 = 0#2 := by
  have h : ∀ p : BitVec 2, Shorthand.ofBits p = .none ↔ p = 0#2 := by decide
  exact h _

theorem ctlKind_eq_none_iff (p : BitVec 3) : (DeliveryMode.ofBits (coerce legalIcr p)).ctlKind = none ↔ p ∈ [0#3, 1#3] := by
  revert p
  decide

theorem ofBits_eq_lowestPriority_iff (p : BitVec 3) : DeliveryMode.ofBits (coerce legalIcr p) = .lowestPriority ↔ p = 1#3 := by
  revert p
  decide

/-! ## The order of a send's checks (R183, R198) -/

/-- The instance that has stored `w` in ICR_LO and sends. -/
def State.sending (s : State) (w : Word) : State := { s with self := { s.self with icrLo := w } }

/-- A shorthand together with a destination (R193). -/
abbrev Conflict (s : State) (w : Word) : Prop := bits w 18 2 ≠ 0#2 ∧ bits s.self.icrHi 24 8 ≠ 0#8

/-- A vector request with a vector below 16 (R192). -/
abbrev LowVector (w : Word) : Prop := bits w 8 3 ∈ [0#3, 1#3] ∧ (bits w 0 8 : Vec).toNat < 16

/-- The targets of the send (R184). -/
def State.sendTargets (s : State) (w : Word) : List ApicId := (s.sending w).resolve (assembleIcr s.self.icrHi w)

theorem conflict_iff (s : State) (w : Word) : (assembleIcr s.self.icrHi w).shorthand ≠ .none ∧
    (assembleIcr s.self.icrHi w).destination ≠ 0#8 ↔ Conflict s w := and_congr (not_congr (shorthand_eq_none_iff _ w)) Iff.rfl

theorem lowVector_iff (hi w : Word) : (assembleIcr hi w).deliveryMode.ctlKind = none ∧ (assembleIcr hi w).vector.toNat < 16 ↔
    LowVector w := and_congr (ctlKind_eq_none_iff _) Iff.rfl

/-- A send fails on its first check that fails, in the order of R198, and else delivers to one elected target or to all. -/
theorem send_eq (s : State) (w : Word) : (s.sending w).send =
    if Conflict s w then
      (s.sending w).raise ((s.sending w).self.esrRecord 2) (.invalidDestination (assembleIcr s.self.icrHi w)) .none
    else if LowVector w then (s.sending w).raise ((s.sending w).self.esrRecord 5) (.illegalVector (bits w 0 8)) .none
    else if bits w 18 2 = 0#2 ∧ s.sendTargets w = [] then
      (s.sending w).raise ((s.sending w).self.esrRecord 2) (.unresolvedTarget (bits s.self.icrHi 24 8)) .none
    else if bits w 8 3 = 1#3 ∧ s.sendTargets w ≠ [] then
      { s.sending w with picks := s.picks + 1 }.deliverAll ((s.sending w).pickLowest (s.sendTargets w)).toList
        (s.sending w).self.ipiMessage
    else (s.sending w).deliverAll (s.sendTargets w) (s.sending w).self.ipiMessage := by
  have hlowest : (assembleIcr s.self.icrHi w).deliveryMode = .lowestPriority ↔ bits w 8 3 = 1#3 := ofBits_eq_lowestPriority_iff _
  have hnone := shorthand_eq_none_iff s.self.icrHi w
  unfold State.send
  dsimp only [State.sending]
  simp only [conflict_iff, lowVector_iff, hnone, hlowest]
  rfl

/-! ## Sends that fail -/

theorem failed_of_raise (s : State) (w : Word) (b : Nat) (e : Error) : (s.sending w).raise ((s.sending w).self.esrRecord b) e .none =
    .next (({ s with self := { s.self with icrLo := w, esr := s.self.esrWith (1#32 <<< b) } } : State).failed e .none) := by
  rw [esrRecord_eq_esrWith]
  rfl

/-- Settles O43. The three failures are the first three branches of `send_eq`, and each records one ESR bit. -/
theorem failedSendRecordsOneErrorAndDeliversNothing : Obligations.FailedSendRecordsOneErrorAndDeliversNothing := by
  intro s v w stored icr conflict low
  have hexec : exec (.wrIcrLo v) s = (s.sending w).send := rfl
  rw [hexec, send_eq s w]
  refine ⟨fun hc => ?_, fun hc hlow => ?_, fun hc hlow hnone htargets => ?_⟩
  · rw [if_pos (show Conflict s w from hc)]
    exact failed_of_raise s w 2 _
  · rw [if_neg (show ¬Conflict s w from hc), if_pos (show LowVector w from hlow)]
    exact failed_of_raise s w 5 _
  · have hempty : s.sendTargets w = [] := htargets
    rw [if_neg (show ¬Conflict s w from hc), if_neg (show ¬LowVector w from hlow), if_pos ⟨hnone, hempty⟩]
    exact failed_of_raise s w 2 _

/-! ## Sends that deliver -/

/-- The deliveries of a send by membership in its targets (R67). -/
theorem deliverAll_eq (s : State) (targets : List ApicId) (msg : BitVec 40) : s.deliverAll targets msg = .next { s with
    self := if s.self.par.apicId ∈ targets then (s.self.deliver msg).lapic else s.self
    peers := s.peers.map fun l => if l.par.apicId ∈ targets then (l.deliver msg).lapic else l
    looks := s.looks.filter fun k => k.sender ∉ targets
    out := { resp := some { error := none, rdata := .none }
             ctl := s.vcpus.filterMap fun l =>
               if l.par.apicId ∈ targets then (l.deliver msg).event.map fun e => (l.par.apicId, e) else none
             ipi := targets.map fun id => { target := id, msg := msg } } } := by
  simp only [State.deliverAll, List.contains_eq_mem, decide_not, decide_eq_true_eq]

/-- The message of a send is the stored word under the sender's identifier (R75, R183). -/
theorem ipiMessage_sending (s : State) (v : Word) : (s.sending (icrLoStored v)).self.ipiMessage = s.self.par.apicId ++ icrLoStored v :=
  ipiMessage_of_icrLoStored s.self v

/-- A send that passes its checks and elects nobody delivers to all of its targets (R183). -/
theorem exec_wrIcrLo_delivers (s : State) (v : Word) (hc : bits (icrLoStored v) 18 2 = 0#2 ∨ bits s.self.icrHi 24 8 = 0#8)
    (hlow : bits (icrLoStored v) 8 3 ∈ [0#3, 1#3] → 16 ≤ (bits (icrLoStored v) 0 8 : Vec).toNat)
    (hlowest : bits (icrLoStored v) 8 3 = 1#3 → s.sendTargets (icrLoStored v) = [])
    (hsome : bits (icrLoStored v) 18 2 = 0#2 → s.sendTargets (icrLoStored v) ≠ []) :
    exec (.wrIcrLo v) s =
      (s.sending (icrLoStored v)).deliverAll (s.sendTargets (icrLoStored v)) (s.self.par.apicId ++ icrLoStored v) := by
  have hexec : exec (.wrIcrLo v) s = (s.sending (icrLoStored v)).send := rfl
  rw [hexec, send_eq s _, if_neg, if_neg, if_neg, if_neg, ipiMessage_sending]
  · exact fun ⟨hmode, hne⟩ => hne (hlowest hmode)
  · exact fun ⟨hnone, hempty⟩ => hsome hnone hempty
  · exact fun ⟨hmode, hv⟩ => Nat.not_lt.mpr (hlow hmode) hv
  · exact fun ⟨hshort, hdest⟩ => hc.elim hshort hdest

/-- Settles O44. The last branch of `send_eq`, read off `deliverAll_eq`; with no target every `if` of it is on its else side. -/
theorem sendDeliversToEveryTarget : Obligations.SendDeliversToEveryTarget := by
  intro s v w s1 targets msg run hc hlow hlowest hsome
  have hexec : exec (.wrIcrLo v) s = s1.deliverAll targets msg := exec_wrIcrLo_delivers s v hc hlow hlowest hsome
  rw [hexec, deliverAll_eq]
  refine ⟨⟨_, rfl, rfl, rfl, rfl, rfl, rfl, rfl, rfl, rfl, List.Perm.refl _, List.Perm.refl _⟩, fun hempty => ?_⟩
  rw [hempty]
  simp [State.updated, s1]

/-! ## A Fixed send to all but self -/

/-- The fields of a message's low word are the word's (R75). -/
theorem bits_message (id : ApicId) (w : Word) (lo n : Nat) (h : lo + n ≤ 32) : bits (id ++ w : BitVec 40) lo n = bits w lo n :=
  BitVec.extractLsb'_append_eq_of_add_le h

theorem getLsbD_message (id : ApicId) (w : Word) (i : Nat) (h : i < 32) : (id ++ w : BitVec 40).getLsbD i = w.getLsbD i := by
  rw [BitVec.getLsbD_append, if_pos h]

/-- The Fixed command to all but self with vector `v` (R34, R83). -/
def fixedToOthers (v : Vec) : Word := 0x000C0000#32 ||| v.setWidth 32

theorem getLsbD_fixedToOthers (v : Vec) (i : Nat) (hi : i < 32) :
    (fixedToOthers v).getLsbD i = if i < 8 then v.getLsbD i else decide (i = 18 ∨ i = 19) := by
  rw [fixedToOthers, BitVec.getLsbD_or, BitVec.getLsbD_setWidth]
  have hword : ∀ j < 32, (0x000C0000#32).getLsbD j = decide (j = 18 ∨ j = 19) := by decide
  rw [hword i hi]
  by_cases h8 : i < 8
  · simp [h8, hi, show ¬(i = 18 ∨ i = 19) by omega]
  · simp [h8, BitVec.getLsbD_of_ge v i (Nat.not_lt.mp h8)]

theorem bits_fixedToOthers (v : Vec) : bits (fixedToOthers v) 0 8 = v ∧ bits (fixedToOthers v) 8 3 = 0#3 ∧
    bits (fixedToOthers v) 18 2 = 3#2 ∧ (fixedToOthers v).getLsbD 15 = false := by
  have hfield (lo n : Nat) (h : lo + n ≤ 32) (i : Nat) (hi : i < n) : (bits (fixedToOthers v) lo n).getLsbD i =
      if lo + i < 8 then v.getLsbD (lo + i) else decide (lo + i = 18 ∨ lo + i = 19) := by
    rw [bits, BitVec.getLsbD_extractLsb', decide_eq_true hi, Bool.true_and, getLsbD_fixedToOthers v _ (by omega)]
  refine ⟨?_, ?_, ?_, ?_⟩
  · refine BitVec.eq_of_getLsbD_eq fun i hi => ?_
    rw [hfield 0 8 (by decide) i hi, Nat.zero_add, if_pos hi]
  · refine BitVec.eq_of_getLsbD_eq fun i hi => ?_
    rw [hfield 8 3 (by decide) i hi, if_neg (by omega), BitVec.getLsbD_zero]
    exact decide_eq_false (by omega)
  · refine BitVec.eq_of_getLsbD_eq fun i hi => ?_
    rw [hfield 18 2 (by decide) i hi, if_neg (by omega)]
    interval_cases i <;> rfl
  · rw [getLsbD_fixedToOthers v 15 (by decide)]
    rfl

/-- The command has no bit that ICR_LO does not take, and a legal mode (R119). -/
theorem icrLoStored_fixedToOthers (v : Vec) : icrLoStored (fixedToOthers v) = fixedToOthers v := by
  rw [icrLoStored_of_legal _ (by rw [(bits_fixedToOthers v).2.1]; decide)]
  have hmask : ∀ j < 32, j < 8 ∨ j = 18 ∨ j = 19 → (writeMask .icrLo).getLsbD j = true := by decide
  refine BitVec.eq_of_getLsbD_eq fun i hi => ?_
  rw [BitVec.getLsbD_and, getLsbD_fixedToOthers v i hi]
  by_cases hin : i < 8 ∨ i = 18 ∨ i = 19
  · rw [hmask i hi hin, Bool.and_true]
  · rw [if_neg (by omega), decide_eq_false (by omega), Bool.false_and]

/-- A Fixed edge-triggered message with a legal vector is posted where it is not pending yet (R172, R187). -/
theorem deliver_fixedToOthers (p : Lapic) (id : ApicId) (v : Vec) (hv : 16 ≤ v.toNat) :
    (p.deliver (id ++ fixedToOthers v)).lapic = if Bitmap.has p.irr v = true then p
      else { p with irr := Bitmap.set p.irr v, tmr := Bitmap.clear p.tmr v } := by
  obtain ⟨hvector, hmode, -, hedge⟩ := bits_fixedToOthers v
  obtain ⟨k, hk, -⟩ | ⟨-, -, hd, -⟩ := deliver_cases p (id ++ fixedToOthers v)
  · rw [bits_message _ _ _ _ (by decide), hmode] at hk
    cases ((ctlKind_eq_none_iff 0#3).mpr (by decide)).symm.trans hk
  · rw [hd, bits_message _ _ _ _ (by decide), hvector, getLsbD_message _ _ _ (by decide), hedge]
    obtain ⟨hlow, -⟩ | ⟨-, hpending, hp⟩ | ⟨-, hnew, hp⟩ := post_cases p v (Trigger.ofBool false)
    · exact absurd hv (Nat.not_le.mpr hlow)
    · rw [hp, if_pos hpending]
    · rw [hp, hnew]
      rfl

/-- Settles O45. The sender is no target of the shorthand, every peer is one, and each posts the vector as Edge. -/
theorem allExcludingSelfReachesEveryOther : Obligations.AllExcludingSelfReachesEveryOther := by
  intro s v hids hdest hv
  obtain ⟨hvector, hmode, hshort, -⟩ := bits_fixedToOthers v
  have hstored := icrLoStored_fixedToOthers v
  have htargets : s.sendTargets (fixedToOthers v) = (s.vcpus.map (·.par.apicId)).filter (· ≠ s.self.par.apicId) := by
    refine resolve_allExcludingSelf _ _ ?_
    change Shorthand.ofBits (bits (fixedToOthers v) 18 2) = _
    rw [hshort]
    rfl
  have hexec := exec_wrIcrLo_delivers s (fixedToOthers v) (.inr hdest) (fun _ => by rw [hstored, hvector]; exact hv)
    (fun h => by rw [hstored, hmode] at h; cases h) (fun h => by rw [hstored, hshort] at h; cases h)
  rw [hstored, htargets, deliverAll_eq] at hexec
  refine ⟨_, hexec, if_neg (by simp [State.sending]), List.map_congr_left fun p hp => ?_, rfl⟩
  have hin : p.par.apicId ∈ (s.vcpus.map (·.par.apicId)).filter (· ≠ s.self.par.apicId) := by
    rw [List.mem_filter, decide_eq_true_iff]
    exact ⟨List.mem_map.mpr ⟨p, List.mem_cons_of_mem _ hp, rfl⟩, (mem_peers_ne_self hids hp).symm⟩
  rw [if_pos hin, deliver_fixedToOthers p _ v hv]

/-! ## LowestPriority (R185) -/

/-- `a` may be elected before `b`: the lesser Processor Priority, then the lesser identifier (R185). -/
def NotAfter (a b : Lapic) : Prop := a.ppr < b.ppr ∨ a.ppr = b.ppr ∧ a.par.apicId ≤ b.par.apicId

theorem notAfter_refl (a : Lapic) : NotAfter a a := .inr ⟨rfl, BitVec.le_refl _⟩

theorem notAfter_trans {a b c : Lapic} (hab : NotAfter a b) (hbc : NotAfter b c) : NotAfter a c := by
  obtain hab | ⟨hab, hid⟩ := hab
  · obtain hbc | ⟨hbc, -⟩ := hbc
    · exact .inl (BitVec.lt_trans hab hbc)
    · exact .inl (hbc ▸ hab)
  · obtain hbc | ⟨hbc, hid'⟩ := hbc
    · exact .inl (hab ▸ hbc)
    · exact .inr ⟨hab.trans hbc, BitVec.le_trans hid hid'⟩

/-- The comparison of the election decides which of two comes first. -/
theorem notAfter_of_electedBefore (a b : Lapic) :
    (a.electedBefore b = true → NotAfter a b) ∧ (a.electedBefore b = false → NotAfter b a) := by
  have hiff : a.electedBefore b = true ↔ a.ppr < b.ppr ∨ a.ppr = b.ppr ∧ a.par.apicId < b.par.apicId := by
    simp only [Lapic.electedBefore, Bool.or_eq_true, decide_eq_true_eq, Bool.and_eq_true, beq_iff_eq]
  refine ⟨fun h => (hiff.mp h).imp_right fun ⟨heq, hlt⟩ => ⟨heq, BitVec.le_of_lt hlt⟩, fun h => ?_⟩
  have hnot := mt hiff.mpr (by rw [h]; nofun)
  obtain ⟨hle, hid⟩ := not_or.mp hnot
  by_cases heq : a.ppr = b.ppr
  · exact .inr ⟨heq.symm, BitVec.not_lt.mp fun hlt => hid ⟨heq, hlt⟩⟩
  · refine .inl (BitVec.not_le.mp fun hba => heq (BitVec.le_antisymm hba (BitVec.not_lt.mp hle)))

/-- The step of the deterministic election. -/
def elect (best : Option Lapic) (t : Lapic) : Option Lapic :=
  match best with
  | none => some t
  | some b => if t.electedBefore b then some t else some b

/-- The deterministic election among `b` and the others ends with one of them that none comes before (R185). -/
theorem foldl_elect (ts : List Lapic) (b : Lapic) :
    ∃ e ∈ b :: ts, ts.foldl elect (some b) = some e ∧ ∀ o ∈ b :: ts, NotAfter e o := by
  induction ts generalizing b with
  | nil => exact ⟨b, List.mem_cons_self .., rfl, by simpa using notAfter_refl b⟩
  | cons t ts ih =>
    have hstep : ∃ c, elect (some b) t = some c ∧ (c = b ∨ c = t) ∧ NotAfter c b ∧ NotAfter c t := by
      obtain ⟨hbefore, hafter⟩ := notAfter_of_electedBefore t b
      cases h : t.electedBefore b with
      | true => exact ⟨t, if_pos h, .inr rfl, hbefore h, notAfter_refl t⟩
      | false => exact ⟨b, if_neg (by rw [h]; nofun), .inl rfl, notAfter_refl b, hafter h⟩
    obtain ⟨c, hc, hmem, hcb, hct⟩ := hstep
    obtain ⟨e, he, hfold, hmin⟩ := ih c
    have hec := hmin c (List.mem_cons_self ..)
    refine ⟨e, ?_, by rw [List.foldl_cons, hc, hfold], fun o ho => ?_⟩
    · obtain rfl | he := List.mem_cons.mp he
      · obtain rfl | rfl := hmem <;> simp
      · exact List.mem_cons_of_mem _ (List.mem_cons_of_mem _ he)
    · obtain rfl | ho := List.mem_cons.mp ho
      · exact notAfter_trans hec hcb
      · obtain rfl | ho := List.mem_cons.mp ho
        · exact notAfter_trans hec hct
        · exact hmin o (List.mem_cons_of_mem _ ho)

/-- The deterministic refinement elects, among the instances that are targets, one that none comes before (R185). -/
theorem pickLowest_leastPriority (s : State) (targets : List ApicId) (hpick : s.platform.pick = .leastPriority)
    (h : ∃ t ∈ s.vcpus, t.par.apicId ∈ targets) : ∃ e ∈ s.vcpus, e.par.apicId ∈ targets ∧
      s.pickLowest targets = some e.par.apicId ∧ ∀ o ∈ s.vcpus, o.par.apicId ∈ targets → NotAfter e o := by
  have hfold : s.pickLowest targets =
      ((s.vcpus.filter fun t => targets.contains t.par.apicId).foldl elect none).map (·.par.apicId) := by
    rw [State.pickLowest, hpick]
    rfl
  have hmem (t : Lapic) : t ∈ s.vcpus.filter (fun t => targets.contains t.par.apicId) ↔ t ∈ s.vcpus ∧ t.par.apicId ∈ targets := by
    rw [List.mem_filter, List.contains_iff_mem]
  obtain ⟨t, ht, htarget⟩ := h
  cases hcandidates : s.vcpus.filter fun t => targets.contains t.par.apicId with
  | nil =>
    have hin := (hmem t).mpr ⟨ht, htarget⟩
    rw [hcandidates] at hin
    cases hin
  | cons b ts =>
    obtain ⟨e, he, helected, hmin⟩ := foldl_elect ts b
    rw [← hcandidates] at he hmin
    obtain ⟨hin, hetarget⟩ := (hmem e).mp he
    refine ⟨e, hin, hetarget, ?_, fun o ho hotarget => hmin o ((hmem o).mpr ⟨ho, hotarget⟩)⟩
    rw [hfold, hcandidates]
    exact congrArg (Option.map (·.par.apicId)) helected

/-- An election among targets that are instances names one of them (R185). -/
theorem exists_pickLowest (s : State) (targets : List ApicId) (hne : targets ≠ []) (hids : ∀ id ∈ targets, ∃ t ∈ s.vcpus, t.par.apicId = id) :
    ∃ id ∈ targets, s.pickLowest targets = some id := by
  cases hpick : s.platform.pick with
  | anyMember =>
    have hlt : Config.pickLowest s.picks % targets.length < targets.length := Nat.mod_lt _ (List.length_pos_iff.mpr hne)
    refine ⟨_, List.getElem_mem hlt, ?_⟩
    rw [State.pickLowest, hpick]
    exact List.getElem?_eq_getElem hlt
  | leastPriority =>
    obtain ⟨id, hid⟩ := List.exists_mem_of_ne_nil targets hne
    obtain ⟨t, ht, rfl⟩ := hids id hid
    obtain ⟨e, -, hetarget, he, -⟩ := pickLowest_leastPriority s targets hpick ⟨t, ht, hid⟩
    exact ⟨_, hetarget, he⟩

/-- A LowestPriority message makes no event (R187). -/
theorem deliver_event_of_lowestPriority (l : Lapic) (msg : BitVec 40) (h : bits msg 8 3 = 1#3) : (l.deliver msg).event = none := by
  obtain ⟨k, hk, -⟩ | ⟨-, hevent, -⟩ := deliver_cases l msg
  · rw [h] at hk
    cases ((ctlKind_eq_none_iff 1#3).mpr (by decide)).symm.trans hk
  · exact hevent

/-- A LowestPriority send that passes its checks delivers to the one target it elects (R185). -/
theorem exec_wrIcrLo_elects (s : State) (v : Word) (hmode : bits (icrLoStored v) 8 3 = 1#3)
    (hv : 16 ≤ (bits (icrLoStored v) 0 8 : Vec).toNat) (hc : bits (icrLoStored v) 18 2 = 0#2 ∨ bits s.self.icrHi 24 8 = 0#8)
    (hne : s.sendTargets (icrLoStored v) ≠ []) : exec (.wrIcrLo v) s =
      { s.sending (icrLoStored v) with picks := s.picks + 1 }.deliverAll
        ((s.sending (icrLoStored v)).pickLowest (s.sendTargets (icrLoStored v))).toList (s.self.par.apicId ++ icrLoStored v) := by
  have hexec : exec (.wrIcrLo v) s = (s.sending (icrLoStored v)).send := rfl
  rw [hexec, send_eq s _, if_neg, if_neg, if_neg, if_pos ⟨hmode, hne⟩, ipiMessage_sending]
  · exact fun ⟨_, hempty⟩ => hne hempty
  · exact fun ⟨_, hlow⟩ => Nat.not_lt.mpr hv hlow
  · exact fun ⟨hshort, hdest⟩ => hc.elim hshort hdest

/-- Settles O46. The election names a member of the resolved set, and the deliveries go to that one identifier, without an event. -/
theorem lowestPriorityElectsOneTarget : Obligations.LowestPriorityElectsOneTarget := by
  intro s v w s1 targets msg hmode hv hc hne
  have hids : ∀ id ∈ targets, ∃ t ∈ s1.vcpus, t.par.apicId = id := fun id => mem_ids_of_mem_resolve s1 _ id
  obtain ⟨id, hid, hpick⟩ := exists_pickLowest s1 targets hne hids
  have hexec : exec (.wrIcrLo v) s = { s1 with picks := s.picks + 1 }.deliverAll (s1.pickLowest targets).toList msg :=
    exec_wrIcrLo_elects s v hmode hv hc hne
  have hevents (l : Lapic) : (l.deliver msg).event = none :=
    deliver_event_of_lowestPriority l msg ((bits_message _ w 8 3 (by decide)).trans hmode)
  refine ⟨id, hid, ?_, fun hleast => ?_⟩
  · rw [hexec, hpick, deliverAll_eq]
    simp [hevents, s1]
  · obtain ⟨t, ht, htid⟩ := hids id hid
    obtain ⟨e, he, -, helected, hmin⟩ := pickLowest_leastPriority s1 targets hleast ⟨t, ht, htid ▸ hid⟩
    exact ⟨e, he, Option.some.inj (helected.symm.trans hpick), hmin⟩

/-! ## ICR_LO after the write -/

/-- Settles O47. The send changes neither half of the ICR, so ICR_LO keeps what the write stored. -/
theorem icrLowAlwaysKeepsTheWrittenValue : Obligations.IcrLowAlwaysKeepsTheWrittenValue := by
  intro s v
  obtain ⟨t, ht, hlo, hhi⟩ := exec_wrIcrLo_stored v s
  have hcoerce : ∀ p : BitVec 3, coerce legalIcr p = if p = 3#3 then 2#3 else p := by decide
  refine ⟨t, ht, ?_, fun i hi hout => ?_, ?_, hhi⟩ <;> rw [hlo]
  · rw [bits_mode_icrLoStored, hcoerce]
  · rw [getLsbD_icrLoStored v i hi hout, Bool.and_comm]
    rfl
  · rw [getLsbD_icrLoStored v 12 (by decide) (by decide), show (writeMask .icrLo).getLsbD 12 = false from rfl, Bool.and_false]

end Sys2Proof.Machine
end

section
/-! PROOFS. Which operation answers which error (R190 to R194). -/

namespace Sys2Proof.Machine

/-- The error an operation answered with, if it answered with one. -/
def Outputs.error (o : Outputs) : Option Error := o.resp.bind (·.error)

theorem error_of_resp {o : Outputs} {e : Error} {d : RData} (h : o.resp = some { error := some e, rdata := d }) :
    o.error = some e := by
  rw [Outputs.error, h]
  rfl

/-- A send fails with one of three errors, IllegalVector only for a vector below 16 (R198). -/
theorem send_error (s t : State) (v : Word) (e : Error) (h : exec (.wrIcrLo v) s = .next t) (he : t.out.error = some e) :
    (∃ icr, e = .invalidDestination icr) ∨ (∃ x : Vec, x.toNat < 16 ∧ e = .illegalVector x) ∨ ∃ dest, e = .unresolvedTarget dest := by
  have hsend : exec (.wrIcrLo v) s = (s.sending (icrLoStored v)).send := rfl
  rw [hsend, send_eq] at h
  split_ifs at h with hc hlow htargets hlowest <;> cases h
  · cases he
    exact .inl ⟨_, rfl⟩
  · cases he
    exact .inr (.inl ⟨_, hlow.2, rfl⟩)
  · cases he
    exact .inr (.inr ⟨_, rfl⟩)
  · cases he
  · cases he

/-- A local event fails with IllegalVector alone, and only for a vector below 16 (R150). -/
theorem fire_error (s t : State) (src : LvtSource) (e : Error) (h : s.fire src = .next t) (he : t.out.error = some e) :
    ∃ x : Vec, x.toNat < 16 ∧ e = .illegalVector x := by
  obtain ⟨-, hf⟩ | ⟨-, -, ⟨hlow, hf⟩ | ⟨-, -, hf⟩ | ⟨-, -, hf⟩⟩ | ⟨-, k, -, hf⟩ := fire_cases s src <;> cases hf.symm.trans h
  case inr.inl.inl =>
    cases he
    exact ⟨_, hlow, rfl⟩
  all_goals cases he

/-- DELIVER_IPI fails with IllegalVector alone, and only for a vector below 16 (R187). -/
theorem deliverIpi_error (s t : State) (msg : BitVec 40) (e : Error) (h : exec (.deliverIpi msg) s = .next t)
    (he : t.out.error = some e) : ∃ x : Vec, x.toNat < 16 ∧ e = .illegalVector x := by
  cases hkind : (DeliveryMode.ofBits (coerce legalIcr (bits msg 8 3))).ctlKind with
  | none =>
    obtain ⟨hlow, hd⟩ | ⟨-, -, hd⟩ | ⟨-, -, hd⟩ := exec_deliverIpi_of_vector s msg hkind <;> cases hd.symm.trans h <;> cases he
    exact ⟨_, hlow, rfl⟩
  | some k =>
    cases (exec_deliverIpi_of_ctlKind s msg k hkind).symm.trans h
    cases he

/-- The operations an error can come from (R191 to R194). -/
def ErrorFrom (i : Instr) : Error → Prop
  | .malformedAccess off sz => i = .rdMalformed sz off ∨ ∃ v, i = .wrMalformed sz off v
  | .malformedPort op => i = .portReserved op
  | .illegalVector v => v.toNat < 16 ∧ ((∃ x, i = .wrIcrLo x) ∨ (∃ m, i = .deliverIpi m) ∨ Instr.IsFire i)
  | .invalidDestination _ => ∃ x, i = .wrIcrLo x
  | .unresolvedTarget _ => ∃ x, i = .wrIcrLo x

theorem exec_error (i : Instr) (s t : State) (e : Error) (h : exec i s = .next t) (he : t.out.error = some e) : ErrorFrom i e := by
  cases i with
  | rdMalformed sz off => cases h; cases he; exact .inl rfl
  | wrMalformed sz off v => cases h; cases he; exact .inr ⟨v, rfl⟩
  | portReserved op => cases h; cases he; exact rfl
  | wrIcrLo v =>
    obtain ⟨icr, rfl⟩ | ⟨x, hx, rfl⟩ | ⟨dest, rfl⟩ := send_error s t v e h he
    · exact ⟨v, rfl⟩
    · exact ⟨hx, .inl ⟨v, rfl⟩⟩
    · exact ⟨v, rfl⟩
  | deliverIpi msg =>
    obtain ⟨x, hx, rfl⟩ := deliverIpi_error s t msg e h he
    exact ⟨hx, .inr (.inl ⟨msg, rfl⟩)⟩
  | lvtFireCmci | lvtFireThermal | lvtFirePerfmon | lvtFireLint0 | lvtFireLint1 | lvtFireError =>
    obtain ⟨x, hx, rfl⟩ := fire_error s t _ e h he
    exact ⟨hx, .inr (.inr (by simp [Instr.IsFire]))⟩
  | accept =>
    cases hd : s.self.deliverable with
    | none => cases (exec_accept_of_none s hd).symm.trans h; cases he
    | some v => cases (exec_accept_of_deliverable s v hd).symm.trans h; cases he
  | pendingVector =>
    obtain ⟨hsome, hnone⟩ := pendingVectorReportsArbitration s
    cases hd : s.self.deliverable with
    | none => cases (hnone hd).symm.trans h; cases he
    | some v => cases (hsome v hd).symm.trans h; cases he
  | tickTsc now =>
    by_cases hreached : s.self.mode = .tscDeadline ∧ s.self.tscdl ≠ 0#64 ∧ s.self.tscdl ≤ now
    · obtain ⟨hmode, harmed, hle⟩ := hreached
      cases (exec_tickTsc_of_reached s now hmode harmed hle).symm.trans h
      cases he
    · cases (if_neg hreached : exec (.tickTsc now) s = _).symm.trans h
      cases he
  | _ => cases h; cases he

/-- Settles O51. Five kinds of operation can answer an error at all, each with its own. -/
theorem errorsComeOnlyFromTheirOperations : Obligations.ErrorsComeOnlyFromTheirOperations := by
  intro i s t e d h hresp
  have hfrom := exec_error i s t e h (error_of_resp hresp)
  cases e <;> exact hfrom

end Sys2Proof.Machine
end
